-- ==== Sys2Proof/Word.lean ====
section
/-! DEFINITION. The word types of TVOC-LINK: bytes (rule R6), the 16-bit frame fields (rule R7) and
the two fixed-length byte sequences the block holds or validates. -/

namespace Sys2Proof

/-- A byte, 0..255, bit 7 most significant (rule R6). -/
abbrev Byte := BitVec 8

/-- A 16-bit unsigned frame field, 0..65535 (rule R7). -/
abbrev Half := BitVec 16

/-- The bytes of one inbound frame, index 0 first in channel order (rules R39, R46). -/
abbrev Frame := Vector Byte 11

/-- The bytes of a query response that the validator and decoder read, `q[0..9]` (rules R67, R70). -/
abbrev Response := Vector Byte 10

end Sys2Proof
end

