-- ==== Sys2Proof/Config.lean ====
section
/-! DEFINITION. The implementation parameters of rule R5, and the one free value of the model: the
bytes the spec leaves unspecified. -/

namespace Sys2Proof

namespace Config

/-- `FRAME_LEN`: bytes in one inbound frame (rule R5). -/
def frameLen : Nat := 11

/-- `CMD_LEN`: bytes in one outbound command (rule R5). -/
def cmdLen : Nat := 9

/-- `HDR`: the header byte of every inbound frame and every command (rule R5). -/
def hdr : Byte := 0xFE

/-- `AWIN`: first byte of the active-mode checksum window (rule R5). -/
def awinLo : Nat := 3

/-- `AWIN`: last byte of the active-mode checksum window (rule R5). -/
def awinHi : Nat := 8

/-- Length of the query-mode checksum window (rules R5, R50). -/
def qwinLen : Nat := 7

/-- `CSUM_POS`: position of the checksum byte in an inbound frame (rule R5). -/
def csumPos : Nat := 9

/-- `QMIN`: fewest query response bytes that are checksum-checked (rule R5). -/
def qMin : Nat := 10

/-- `T_QWAIT`: the fixed query wait, in milliseconds (rules R5, R124). No rule depends on its value. -/
def tQWaitMs : Nat := 15

/-- `T_POLL_REF`: the caller's reference poll interval, in milliseconds (rules R5, R125). No rule
depends on it and nothing in the block reads it. -/
def tPollRefMs : Nat := 20

/-- The reference value of `BAUD` (rule R5). -/
def baudRef : Nat := 115200

/-- FREE VALUE (log entry 3). The bytes the spec leaves unspecified: `RXBUF` after construction
(rules R27, R130), `QCAP` between operations (rule R20) and after a failed `RxRead` (rule R107).
`draw` numbers the occasion, `idx` the byte. It has no body: nothing can be proved of its value. -/
opaque freeByte (draw idx : Nat) : Byte

end Config

/-- `QWIN_LO`, the first byte of the 7-byte query window: 1 or 2 (rule R68). -/
inductive QWinLo where
  | one
  | two
deriving DecidableEq, Repr

/-- The byte position that a `QWIN_LO` names. -/
def QWinLo.toNat : QWinLo → Nat
  | .one => 1
  | .two => 2

/-- The parameters of rule R5 that are OPEN: arguments of the model, held as data and fixed between
constructions. -/
structure Params where
  /-- `QWIN_LO` (rule R68). -/
  qwinLo : QWinLo
  /-- `BAUD`, the line rate (rules R5, R127). -/
  baud : Nat
  /-- `DEVICE_PATH`, the channel the block is constructed over (rule R5). -/
  devicePath : String
  /-- `RX_DEPTH`, the capacity of the receive channel in bytes (rules R5, R30). -/
  rxDepth : Nat
deriving DecidableEq, Repr

end Sys2Proof
end

