-- ==== Sys2Proof/Machine/Bytes.lean ====
section
/-! DEFINITION. The byte-level functions every rule shares (rules R7, R62), the layouts of the two
inbound frames (rules R46, R47) and the three constant command frames (rule R53). Nothing here reads
the machine's state. -/

namespace Sys2Proof.Machine

/-- `be16(hi, lo) = hi * 256 + lo` (rules R7, R39). -/
def be16 (hi lo : Byte) : Half := BitVec.ofNat 16 (hi.toNat * 256 + lo.toNat)

/-- The more significant byte of a 16-bit field, the one `be16` takes first. -/
def hi8 (v : Half) : Byte := BitVec.ofNat 8 (v.toNat / 256)

/-- The less significant byte of a 16-bit field. -/
def lo8 (v : Half) : Byte := BitVec.ofNat 8 (v.toNat % 256)

/-- `sum8(s)`: the unsigned sum of the bytes, reduced mod 256 once at the end (rules R7, R62). -/
def sum8 (s : List Byte) : Byte := BitVec.ofNat 8 (s.map BitVec.toNat).sum

/-- The inclusive slice `s[a..b]` (rule R6). -/
def slice (s : List Byte) (a b : Nat) : List Byte := (s.drop a).take (b + 1 - a)

/-- The 11 bytes of an active-mode frame from its fields (rule R46). -/
def activeLayout (hdr status byte2 : Byte) (co2 ch2o tvoc : Half) (csum byte10 : Byte) : Frame :=
  #v[hdr, status, byte2, hi8 co2, lo8 co2, hi8 ch2o, lo8 ch2o, hi8 tvoc, lo8 tvoc, csum, byte10]

/-- Bytes 0..9 of a query-mode response from its fields (rule R47). -/
def responseLayout (hdr byte1 byte2 byte3 byte4 : Byte) (tvoc raw2 : Half) (csum : Byte) : Response :=
  #v[hdr, byte1, byte2, byte3, byte4, hi8 tvoc, lo8 tvoc, hi8 raw2, lo8 raw2, csum]

/-- `CMD_ACTIVE`, sent by `SETACT` (rule R53). -/
def cmdActiveBytes : List Byte := [0xFE, 0x00, 0x78, 0x40, 0x00, 0x00, 0x00, 0x00, 0xB8]

/-- `CMD_QMODE`, sent by `SETQRY` (rule R53). -/
def cmdQmodeBytes : List Byte := [0xFE, 0x00, 0x78, 0x41, 0x00, 0x00, 0x00, 0x00, 0xB9]

/-- `CMD_QREQ`, sent by `QUERY` (rule R53). -/
def cmdQreqBytes : List Byte := [0xFE, 0x00, 0x86, 0x00, 0x00, 0x00, 0x00, 0x00, 0x86]

end Sys2Proof.Machine
end

