-- ==== Sys2Proof/Syntax.lean ====
section
/-! DEFINITION. The syntax of the model: one constructor for each row of spec/opcode_table.json.
Nine rows are host op codes (rule R55), three are outbound command frames (rule R53) and two are
inbound frames (rules R46, R47). -/

namespace Sys2Proof

/-- The operations and frames of the opcode table. -/
inductive Instr where
  /-- `SETACT`, op code `001` (rule R92). -/
  | setact
  /-- `SETQRY`, op code `010` (rule R93). -/
  | setqry
  /-- `STOPACT`, the pseudo-operation with `SETQRY`'s op code `010` (rule R94). -/
  | stopact
  /-- `POLL`, op code `011` (rule R78). -/
  | poll
  /-- `QUERY`, op code `100` (rule R97). -/
  | query
  /-- Reserved op code `000` (rule R58). -/
  | reserved000
  /-- Reserved op code `101` (rule R58). -/
  | reserved101
  /-- Reserved op code `110` (rule R58). -/
  | reserved110
  /-- Reserved op code `111` (rule R58). -/
  | reserved111
  /-- The command frame `CMD_ACTIVE` (rules R53, R90). -/
  | cmdActive
  /-- The command frame `CMD_QMODE` (rules R53, R90). -/
  | cmdQmode
  /-- The command frame `CMD_QREQ` (rules R53, R90). -/
  | cmdQreq
  /-- An inbound active-mode frame by its fields; `hdr` is `0xFE` in a well-formed one (rule R46). -/
  | activeFrame (hdr status byte2 : Byte) (co2 ch2o tvoc : Half) (csum byte10 : Byte)
  /-- An inbound query-mode response by its fields; byte 10 may be absent (rules R47, R101). -/
  | queryResponse (hdr byte1 byte2 byte3 byte4 : Byte) (tvoc raw2 : Half) (csum : Byte) (byte10 : Option Byte)
deriving DecidableEq, Repr

/-- The interface a word stands on. The bits alone do not tell an active frame from a query response:
the operation that receives the frame does (rules R46, R47 and the note of the table's
`QUERY_RESPONSE` row), so the interface names the receiver. -/
inductive Port where
  /-- The 3-bit host operation port (rule R54). -/
  | host
  /-- The command serializer (rule R90). -/
  | serializer
  /-- The validator, for a frame that `POLL` received (rule R66). -/
  | activeFrame
  /-- The validator, for a response that `QUERY` received (rule R67). -/
  | queryFrame
deriving DecidableEq, Repr

/-- The interface each instruction stands on. -/
def Instr.port : Instr → Port
  | .setact | .setqry | .stopact | .poll | .query => .host
  | .reserved000 | .reserved101 | .reserved110 | .reserved111 => .host
  | .cmdActive | .cmdQmode | .cmdQreq => .serializer
  | .activeFrame .. => .activeFrame
  | .queryResponse .. => .queryFrame

/-- The instruction a spelling stands for: `STOPACT` is exactly `SETQRY` (rule R94). -/
def Instr.core : Instr → Instr
  | .stopact => .setqry
  | i => i

end Sys2Proof
end

