-- ==== Sys2Proof/Decode.lean ====
section
/-! DEFINITION. The decoder, total on every list of bytes at every interface, with the encoder after
it. A host operation is the 3-bit value `OP[2:0]` (rule R55), held in one byte; a command is 9 bytes
(rule R51); an active frame is 11 bytes and a query response 10 or 11 (rules R46, R47, R101). -/

namespace Sys2Proof

/-- Why a word is no instruction. -/
inductive DecodeError where
  /-- The word has a length that nothing on its interface has (rule R60). -/
  | wrongLength (n : Nat)
  /-- A value on the host port that does not fit the 3 bits of `OP` (rule R54). -/
  | opCodeTooWide (b : Byte)
  /-- Nine bytes that are none of the three constant commands: the block can send no other (rule R52). -/
  | noSuchCommand
deriving DecidableEq, Repr

/-- The op code map (rule R55): all three bits of `OP` select the operation. -/
def decodeOp (b : Byte) : Except DecodeError Instr :=
  match b.toNat with
  | 0 => .ok .reserved000
  | 1 => .ok .setact
  | 2 => .ok .setqry
  | 3 => .ok .poll
  | 4 => .ok .query
  | 5 => .ok .reserved101
  | 6 => .ok .reserved110
  | 7 => .ok .reserved111
  | _ => .error (.opCodeTooWide b)

/-- The three command frames (rule R53), compared byte for byte. -/
def decodeCommand (w : List Byte) : Except DecodeError Instr :=
  if w = Machine.cmdActiveBytes then .ok .cmdActive
  else if w = Machine.cmdQmodeBytes then .ok .cmdQmode
  else if w = Machine.cmdQreqBytes then .ok .cmdQreq
  else .error .noSuchCommand

/-- The decoder of each interface. No inbound byte pattern of the right length is illegal (rule R58). -/
def decodeOn (p : Port) (w : List Byte) : Except DecodeError Instr :=
  match p with
  | .host =>
    match w with
    | [b] => decodeOp b
    | _ => .error (.wrongLength w.length)
  | .serializer =>
    if w.length = 9 then decodeCommand w else .error (.wrongLength w.length)
  | .activeFrame =>
    match w with
    | [b0, b1, b2, b3, b4, b5, b6, b7, b8, b9, b10] =>
      .ok (.activeFrame b0 b1 b2 (Machine.be16 b3 b4) (Machine.be16 b5 b6) (Machine.be16 b7 b8) b9 b10)
    | _ => .error (.wrongLength w.length)
  | .queryFrame =>
    match w with
    | [b0, b1, b2, b3, b4, b5, b6, b7, b8, b9] =>
      .ok (.queryResponse b0 b1 b2 b3 b4 (Machine.be16 b5 b6) (Machine.be16 b7 b8) b9 none)
    | [b0, b1, b2, b3, b4, b5, b6, b7, b8, b9, b10] =>
      .ok (.queryResponse b0 b1 b2 b3 b4 (Machine.be16 b5 b6) (Machine.be16 b7 b8) b9 (some b10))
    | _ => .error (.wrongLength w.length)

/-- The word of an instruction, in channel order (rules R46, R47, R53, R55). -/
def encode : Instr → List Byte
  | .reserved000 => [0b000]
  | .setact => [0b001]
  | .setqry => [0b010]
  | .stopact => [0b010]
  | .poll => [0b011]
  | .query => [0b100]
  | .reserved101 => [0b101]
  | .reserved110 => [0b110]
  | .reserved111 => [0b111]
  | .cmdActive => Machine.cmdActiveBytes
  | .cmdQmode => Machine.cmdQmodeBytes
  | .cmdQreq => Machine.cmdQreqBytes
  | .activeFrame hdr status byte2 co2 ch2o tvoc csum byte10 =>
    (Machine.activeLayout hdr status byte2 co2 ch2o tvoc csum byte10).toList
  | .queryResponse hdr byte1 byte2 byte3 byte4 tvoc raw2 csum byte10 =>
    (Machine.responseLayout hdr byte1 byte2 byte3 byte4 tvoc raw2 csum).toList ++ byte10.toList

/-- The spellings of the operations in a program: the mnemonic and the source's name (rule R59). -/
def spellings : List (String × Instr) :=
  [("SETACT", .setact), ("set_active_mode", .setact), ("SETQRY", .setqry), ("set_query_mode", .setqry),
   ("POLL", .poll), ("poll_active", .poll), ("QUERY", .query), ("query", .query),
   ("STOPACT", .stopact), ("stop_active", .stopact)]

/-- The operation a program line names (rule R59). -/
def ofSpelling (name : String) : Option Instr := (spellings.find? fun e => e.1 == name).map Prod.snd

/-- The bytes of a table word. The table numbers a command or a frame as ONE number with byte 0 most
significant (its `CMD9` and `FRAME11` notes), so the bytes come out from the top (log entry 8). -/
def wordBytes : Nat → Nat → List Byte
  | 0, _ => []
  | n + 1, w => BitVec.ofNat 8 (w / 256 ^ n) :: wordBytes n w

/-- The interface on which a table word of `n` bytes stands. An 11-byte word is read as the frame
`POLL` receives; only a response without byte 10 has 10 bytes (log entry 8). -/
def tablePort (n : Nat) : Option Port :=
  if n = 1 then some .host
  else if n = 9 then some .serializer
  else if n = 10 then some .queryFrame
  else if n = 11 then some .activeFrame
  else none

/-- A table word, as the interface it stands on and its bytes there. -/
def tableWord (nbits w : Nat) : Option (Port × List Byte) :=
  let n := (nbits + 7) / 8
  (tablePort n).map fun p => (p, wordBytes n w)

/-- The instruction the decoder reads from a word of spec/opcode_table.json. -/
def decodeTableWord (nbits w : Nat) : Option Instr :=
  match tableWord nbits w with
  | none => none
  | some (p, bytes) => (decodeOn p bytes).toOption

end Sys2Proof
end

