-- ==== Sys2Proof/Machine/State.lean ====
section
/-! DEFINITION. The state of TVOC-LINK: its registers (rules R17 to R20), the environment state it
reads or changes (rule R23), its parameters (rule R5), and the model's own bookkeeping for the
pending inputs, the environment's draws and the outcomes returned (rules R13, R36, R142). -/

namespace Sys2Proof.Machine

/-- The payload of `ReadingActive` (rules R57, R69). -/
structure ActiveReading where
  status : Byte
  co2 : Half
  ch2o : Half
  tvocRaw : Half
  alarm : Bool
deriving DecidableEq, Repr

/-- The payload of `ReadingQuery` (rules R57, R70). -/
structure QueryReading where
  tvocRaw : Half
  raw2 : Half
  alarm : Bool
deriving DecidableEq, Repr

/-- The outcomes of an operation (rules R56, R112), each carrying only its present fields (rule R57). -/
inductive Result where
  | done
  | noData
  | noResponse
  | checksumError
  | readingActive (r : ActiveReading)
  | readingQuery (r : QueryReading)
  | ioError
  | reject
deriving DecidableEq, Repr

/-- What a validator answers (rules R66, R67). -/
inductive Verdict where
  | valid
  | checksumError
deriving DecidableEq, Repr

/-- `SENSOR_MODE`, the sensor module's own mode (rule R23). -/
inductive SensorMode where
  | active
  | query
deriving DecidableEq, Repr

/-- One thing the environment may do between operations or during `Wait` (rules R23, R37, R95). -/
inductive EnvAction where
  /-- Bytes arrive at the tail of `RXQ`; those beyond its capacity `RX_DEPTH` are lost (rule R30). -/
  | rxAppend (bs : List Byte)
  /-- Bytes are dropped from `RXQ` anywhere: the byte at a position whose mark is false goes, those
  past the end of the marks stay (rules R30, R37). -/
  | rxDrop (keep : List Bool)
  /-- `ALARM` takes a level (rules R23, R126). -/
  | setAlarm (level : Bool)
  /-- The sensor changes its mode (rule R95). -/
  | setSensorMode (m : SensorMode)
deriving DecidableEq, Repr

/-- The environment's draws for one operation (rules R13, R36, R106). No operation calls a primitive
twice, so one entry for each primitive says all. -/
structure Draws where
  /-- `RxAvail` fails (rule R36). -/
  rxAvailFails : Bool
  /-- `RxPop` fails, having removed that many head bytes, at most its request of one (rule R36). -/
  rxPopFails : Option Nat
  /-- `RxRead(n)` fails, having removed that many head bytes, at most n (rule R36). -/
  rxReadFails : Option Nat
  /-- `RxFlush` fails, having discarded that many head bytes, at most all (rule R36). -/
  rxFlushFails : Option Nat
  /-- `TxWrite(s)` fails, having sent that many leading bytes of s, at most all (rule R36). -/
  txWriteFails : Option Nat
  /-- `ChanOpen` fails (rules R36, R130). -/
  chanOpenFails : Bool
  /-- What the environment does, in order, while `Wait(T_QWAIT)` lasts (rules R37, R106). -/
  duringWait : List EnvAction
deriving DecidableEq, Repr

/-- The draws of an environment in which no primitive fails and nothing arrives during the wait. -/
def Draws.quiet : Draws :=
  { rxAvailFails := false, rxPopFails := none, rxReadFails := none, rxFlushFails := none,
    txWriteFails := none, chanOpenFails := false, duringWait := [] }

/-- One pending input of a run (rule R142): a construction, a request, or an environment action. -/
inductive Event where
  /-- `RESET(DEVICE_PATH, BAUD)` with the environment's draws (rule R130). -/
  | construct (path : String) (baud : Nat) (d : Draws)
  /-- A word on an interface, with the environment's draws while it is carried out. On the host port
  it is an operation request (rule R54). -/
  | request (port : Port) (word : List Byte) (d : Draws)
  /-- The environment acts between operations (rule R37). -/
  | env (a : EnvAction)
deriving DecidableEq, Repr

/-- Everything the spec gives the block and its environment, and the model's own fields. -/
structure State where
  /-- `RXBUF[0..10]`, the receive buffer (rule R17). -/
  rxbuf : Frame
  /-- `FILL`, the 4-bit fill index, 0..10 between operations (rule R18). -/
  fill : BitVec 4
  /-- `LIVE`, the channel-open bit (rule R19). -/
  live : Bool
  /-- `QCAP[0..10]`, the transient query capture (rule R20). -/
  qcap : Frame
  /-- `RXQ`, the receive channel, oldest byte first (rules R23, R30). -/
  rxq : List Byte
  /-- The transmit channel: every byte sent so far, first sent first (rules R23, R35). -/
  tx : List Byte
  /-- `ALARM`, the level of the alarm input, true when asserted (rules R23, R126). -/
  alarm : Bool
  /-- `SENSOR_MODE`, which the block never reads (rule R23). -/
  sensorMode : SensorMode
  /-- The OPEN parameters (rule R5). -/
  params : Params
  /-- The model's own: the pending inputs, the next one first (rule R142). -/
  inputs : List Event
  /-- The model's own: the environment's draws for the operation in progress (rule R13). -/
  draws : Draws
  /-- The model's own: how many times unspecified bytes were drawn (`Config.freeByte`). -/
  freeCount : Nat
  /-- The model's own: the outcomes returned so far, first returned first. They are part of the
  observation of a run (rule R142); the block retains none of them and reads none (rule R22). -/
  outcomes : List Result
  /-- The model's own: what the last word on the serializer or a validator gave, where it gave
  anything (log entry 5). -/
  unitResult : Option Result
deriving DecidableEq, Repr

/-- Why the machine stops. -/
inductive Fault where
  /-- Raised by every operation and every word when `LIVE` = 0: the block accepts no operation, no
  outcome is returned and there is no step (rules R19, R111). Safe: the machine only stops. -/
  | notLive
deriving DecidableEq, Repr

/-- Why the model gives a word no meaning. -/
inductive Refusal where
  /-- Raised by exec's arm of an instruction that has no meaning yet. Safe: the machine only stops. -/
  | notModelled (mnemonic : String)
  /-- Raised by every operation and every word when `FILL` is in 11..15 between operations: such a
  state is unreachable and a model refuses to step from it (rule R18). Safe: the machine only stops. -/
  | fillOutOfRange
  /-- Raised by step for a word that is no instruction of its interface (rules R52, R54, R60). Safe:
  the machine only stops. -/
  | undecodable (e : DecodeError)
deriving DecidableEq, Repr

/-- The parameters at `State.reset`: the default `QWIN_LO` (rule R68) and the reference `BAUD`
(rule R5); the device path and `RX_DEPTH` are the model's choice (log entry 2). -/
def Params.reset : Params :=
  { qwinLo := .two, baud := Config.baudRef, devicePath := "", rxDepth := 4096 }

/-- The machine right after a successful construction (rules R27, R130): `FILL` = 0, `LIVE` = 1 and
`RXQ` empty, which the spec states. Every other value is the model's choice (log entries 1 and 2). -/
def State.reset : State :=
  { rxbuf := Vector.replicate 11 0, fill := 0, live := true, qcap := Vector.replicate 11 0,
    rxq := [], tx := [], alarm := false, sensorMode := .active, params := Params.reset,
    inputs := [], draws := Draws.quiet, freeCount := 0, outcomes := [], unitResult := none }

end Sys2Proof.Machine
end

