-- ==== Sys2Proof/Machine/Ops.lean ====
section
/-! DEFINITION. The named operations over the registers and the channels: the primitives of rule R14
with their failures (rule R36), the environment's actions (rule R37), returning an outcome (rules R10,
R110), accepting an operation (rule R111) and the free values of log entry 3. TVOC-LINK has no traps
and no return from one (rules R110, R120): `raise IoError()` is the shared operation `raiseIoError`. -/

namespace Sys2Proof.Machine

/-! ## Register and channel writes -/

/-- `FILL <- v` (rule R8). -/
def State.setFill (s : State) (v : BitVec 4) : State := { s with fill := v }

/-- `RXBUF[i] <- b` (rule R8). -/
def State.storeRx (s : State) (i : Nat) (b : Byte) : State := { s with rxbuf := s.rxbuf.setIfInBounds i b }

/-- Sets `RXBUF[0..10]` whole, for construction (rule R130). -/
def State.setRxbuf (s : State) (v : Frame) : State := { s with rxbuf := v }

/-- `LIVE <- v` (rule R8). -/
def State.setLive (s : State) (v : Bool) : State := { s with live := v }

/-- Sets `QCAP[0..10]` whole (rules R20, R98). -/
def State.setQcap (s : State) (v : Frame) : State := { s with qcap := v }

/-- Sets the receive channel. -/
def State.setRxq (s : State) (q : List Byte) : State := { s with rxq := q }

/-- Sends bytes on the transmit channel, in order (rule R35). -/
def State.send (s : State) (w : List Byte) : State := { s with tx := s.tx ++ w }

/-- Sets the level of `ALARM`; the environment's, the block never does it (rules R23, R126). -/
def State.setAlarm (s : State) (v : Bool) : State := { s with alarm := v }

/-- Sets `SENSOR_MODE`; the environment's (rule R95). -/
def State.setSensorMode (s : State) (m : SensorMode) : State := { s with sensorMode := m }

/-- Sets `DEVICE_PATH` and `BAUD`, which a construction takes (rules R5, R130). -/
def State.setChannel (s : State) (path : String) (baud : Nat) : State :=
  { s with params := { s.params with devicePath := path, baud := baud } }

/-- The pending inputs that remain. -/
def State.setInputs (s : State) (l : List Event) : State := { s with inputs := l }

/-- The environment's draws for the operation that begins. -/
def State.setDraws (s : State) (d : Draws) : State := { s with draws := d }

/-- `return r` of a host operation (rules R10, R112): the outcome goes to the host. -/
def State.ret (s : State) (r : Result) : State := { s with outcomes := s.outcomes ++ [r] }

/-- What a word on the serializer or a validator gave (log entry 5). -/
def State.setUnitResult (s : State) (r : Option Result) : State := { s with unitResult := r }

/-- Counts one more use of unspecified bytes (log entry 3). -/
def State.countFree (s : State) : State := { s with freeCount := s.freeCount + 1 }

/-! ## Unspecified bytes -/

/-- The unspecified bytes number `k` (log entry 3). -/
def freeBytes (k : Nat) : Frame :=
  #v[Config.freeByte k 0, Config.freeByte k 1, Config.freeByte k 2, Config.freeByte k 3,
     Config.freeByte k 4, Config.freeByte k 5, Config.freeByte k 6, Config.freeByte k 7,
     Config.freeByte k 8, Config.freeByte k 9, Config.freeByte k 10]

/-- `QCAP` holds unspecified bytes (rules R20, R107). -/
def State.freeQcap (s : State) : State := (s.setQcap (freeBytes s.freeCount)).countFree

/-- `RXBUF` holds unspecified bytes (rules R27, R130). -/
def State.freeRxbuf (s : State) : State := (s.setRxbuf (freeBytes s.freeCount)).countFree

/-- An operation begins: the input is taken, the environment's draws are in force, and `QCAP` holds
whatever it held between operations, which the spec leaves unspecified (rule R20). -/
def State.begin (s : State) (rest : List Event) (d : Draws) : State :=
  ((s.setInputs rest).setDraws d).freeQcap

/-! ## Returning and accepting -/

/-- `raise IoError()`, which is `return IoError()` (rule R10). -/
def raiseIoError (s : State) : State := s.ret .ioError

/-- How a channel primitive ends: with its result, or with a transport error (rule R36). -/
inductive Prim (α : Type) where
  | ok (a : α) (s : State)
  | failed (s : State)

/-- A primitive inside a host operation: on failure the later steps are not performed and the operation
returns `IoError` (rules R10, R36). -/
def orIoError {α : Type} (p : Prim α) (k : α → State → State) : State :=
  match p with
  | .ok a s => k a s
  | .failed s => raiseIoError s

/-- Acceptance: an operation is accepted only when `LIVE` = 1 (rule R111), and a model refuses to step
with `FILL` in 11..15 (rule R18). An accepted operation runs to its return (rule R38). -/
def accept (body : State → State) (s : State) : Host.Outcome State Fault Refusal :=
  if s.live = false then .fault .notLive
  else if 10 < s.fill.toNat then .refused .fillOutOfRange
  else .next (body s)

/-- `op_ready`: the block is idle and `LIVE` = 1 (rule R61). Between the model's steps it is idle. -/
def State.opReady (s : State) : Bool := s.live

/-! ## The primitives of rule R14 -/

/-- `RxAvail()` (rules R31, R36): a failure changes nothing. -/
def rxAvail (s : State) : Prim Nat :=
  if s.draws.rxAvailFails then .failed s else .ok s.rxq.length s

/-- `RxPop()` (rules R32, R36). It is called only with a byte in `RXQ`, so its last case is never
reached (rule R32). -/
def rxPop (s : State) : Prim Byte :=
  match s.draws.rxPopFails with
  | some k => .failed (s.setRxq (s.rxq.drop (min k 1)))
  | none =>
    match s.rxq with
    | b :: q => .ok b (s.setRxq q)
    | [] => .failed s

/-- `RxRead(n)` (rules R33, R36). -/
def rxRead (n : Nat) (s : State) : Prim (List Byte) :=
  match s.draws.rxReadFails with
  | some k => .failed (s.setRxq (s.rxq.drop (min k n)))
  | none => .ok (s.rxq.take n) (s.setRxq (s.rxq.drop n))

/-- `RxFlush()` (rules R34, R36): a failed flush may have discarded any leading part of `RXQ`. -/
def rxFlush (s : State) : Prim Unit :=
  match s.draws.rxFlushFails with
  | some k => .failed (s.setRxq (s.rxq.drop k))
  | none => .ok () (s.setRxq [])

/-- `TxWrite(w)` (rules R35, R36): a failed write may have sent any leading part of `w`. -/
def txWrite (w : List Byte) (s : State) : Prim Unit :=
  match s.draws.txWriteFails with
  | some k => .failed (s.send (w.take k))
  | none => .ok () (s.send w)

/-- `ChanOpen(path, baud)` (rules R14, R130): the environment opens the channel or does not. -/
def chanOpen (_path : String) (_baud : Nat) (s : State) : Bool := !s.draws.chanOpenFails

/-- `AlarmSample()` (rule R126). -/
def alarmSample (s : State) : Bool := s.alarm

/-! ## The environment -/

/-- The bytes of a queue that the marks keep: a false mark drops its byte, and bytes past the end of
the marks stay. -/
def keepMarked : List Bool → List Byte → List Byte
  | [], q => q
  | _ :: _, [] => []
  | true :: m, b :: q => b :: keepMarked m q
  | false :: m, _ :: q => keepMarked m q

/-- One action of the environment (rules R30, R37, R95). Arriving bytes fill `RXQ` up to `RX_DEPTH`;
every other way to overflow is a drop before the arrival. -/
def EnvAction.act (a : EnvAction) (s : State) : State :=
  match a with
  | .rxAppend bs => s.setRxq (s.rxq ++ bs.take (s.params.rxDepth - s.rxq.length))
  | .rxDrop keep => s.setRxq (keepMarked keep s.rxq)
  | .setAlarm level => s.setAlarm level
  | .setSensorMode m => s.setSensorMode m

/-- Actions of the environment, one after the other. -/
def actAll : List EnvAction → State → State
  | [], s => s
  | a :: rest, s => actAll rest (a.act s)

/-- `Wait(t)` (rules R106, R124): time is not modelled; the environment acts meanwhile. -/
def wait (_ms : Nat) (s : State) : State := actAll s.draws.duringWait s

/-! ## Captures -/

/-- `v` with the bytes stored at `i`, `i + 1`, ... (rule R98). -/
def storeFrom (v : Frame) (i : Nat) : List Byte → Frame
  | [] => v
  | b :: bs => storeFrom (v.setIfInBounds i b) (i + 1) bs

/-- `QCAP[0..9]` of a capture (rules R67, R70). -/
def capturedResponse (v : Frame) : Response :=
  #v[v[0], v[1], v[2], v[3], v[4], v[5], v[6], v[7], v[8], v[9]]

end Sys2Proof.Machine
end

