-- ==== Sys2Proof/Machine/Construct.lean ====
section
/-! DEFINITION. Construction, the block's reset sequence (rules R130 to R132). It is no op code (rule
R54): it runs from any state, whatever `LIVE` and `FILL` hold. -/

namespace Sys2Proof.Machine

/-- `LIVE <- 0; return IoError()` (rule R131). -/
def constructionFailed (s : State) : State := raiseIoError (s.setLive false)

/-- `RESET(DEVICE_PATH, BAUD)` (rule R130). -/
def construct (path : String) (baud : Nat) (s : State) : State :=
  let s := ((s.setChannel path baud).setFill 0).freeRxbuf.freeQcap
  if chanOpen path baud s then
    match rxFlush s with
    | .failed s => constructionFailed s
    | .ok _ s => (s.setLive true).ret .done
  else constructionFailed s

end Sys2Proof.Machine
end

