-- ==== Sys2Proof/Machine/Commands.lean ====
section
/-! DEFINITION. The command serializer: `SETACT`, `SETQRY` and `STOPACT` (rules R90 to R94), and the
three command frames on the serializer itself (rule R90 and log entry 5). -/

namespace Sys2Proof.Machine

/-- `SendCmd(K)` is `TxWrite(K[0..8])` (rule R90). -/
def sendCmd (k : List Byte) (s : State) : Prim Unit := txWrite k s

/-- A mode command: `FILL <- 0`, then the command, then `Done` (rules R91 to R93). -/
def modeCommand (k : List Byte) (s : State) : State :=
  orIoError (sendCmd k (s.setFill 0)) fun _ s => s.ret .done

/-- `SETACT` (rule R92). -/
def execSetact (s : State) : Host.Outcome State Fault Refusal := accept (modeCommand cmdActiveBytes) s

/-- `SETQRY` (rule R93). -/
def execSetqry (s : State) : Host.Outcome State Fault Refusal := accept (modeCommand cmdQmodeBytes) s

/-- `STOPACT`, identical to `SETQRY` (rule R94). -/
def execStopact (s : State) : Host.Outcome State Fault Refusal := accept (modeCommand cmdQmodeBytes) s

/-- `SendCmd(K)` on its own: it reads and writes no register, and gives a result only where the
`TxWrite` fails (rule R90; log entry 5). -/
def serializeAlone (k : List Byte) (s : State) : State :=
  match sendCmd k s with
  | .ok _ s => s.setUnitResult none
  | .failed s => s.setUnitResult (some .ioError)

/-- The frame `CMD_ACTIVE` on the serializer (rules R53, R90). -/
def execCmdActive (s : State) : Host.Outcome State Fault Refusal := accept (serializeAlone cmdActiveBytes) s

/-- The frame `CMD_QMODE` on the serializer (rules R53, R90). -/
def execCmdQmode (s : State) : Host.Outcome State Fault Refusal := accept (serializeAlone cmdQmodeBytes) s

/-- The frame `CMD_QREQ` on the serializer (rules R53, R90). -/
def execCmdQreq (s : State) : Host.Outcome State Fault Refusal := accept (serializeAlone cmdQreqBytes) s

end Sys2Proof.Machine
end

