-- ==== Sys2Proof/Machine/Flags.lean ====
section
/-! DEFINITION. The checks of a frame. TVOC-LINK has no flags (rule R22); what stands in their place is
the header test and the checksum tests of the validators (rules R63 to R67). -/

namespace Sys2Proof.Machine

/-- `hdr_ok` on the header byte of a frame (rule R65). -/
def hdrOk (b : Byte) : Bool := b == Config.hdr

/-- `csum_ok_active(f)`: `sum8(f[3..8]) == f[9]` (rule R63). -/
def csumOkActive (f : Frame) : Bool := sum8 (slice f.toList Config.awinLo Config.awinHi) == f[9]

/-- The query-mode checksum test: `sum8(q[QWIN_LO..QWIN_LO+6]) == q[9]` (rule R67). -/
def csumOkQuery (w : QWinLo) (q : Response) : Bool :=
  sum8 (slice q.toList w.toNat (w.toNat + (Config.qwinLen - 1))) == q[9]

/-- The checksum property of an outbound command: `c[8] = sum8(c[1..7])` (rules R64, R96). The block
never computes it. -/
def commandChecksumOk (c : List Byte) : Bool := [sum8 (slice c 1 7)] == c.drop 8

/-- `validate_active(f)`: the header test first, then the checksum test (rule R66). -/
def validateActive (f : Frame) : Verdict :=
  if !hdrOk f[0] then .checksumError
  else if !csumOkActive f then .checksumError
  else .valid

/-- `validate_query(q)`: the header test first, then the checksum test (rule R67). -/
def validateQuery (w : QWinLo) (q : Response) : Verdict :=
  if !hdrOk q[0] then .checksumError
  else if !csumOkQuery w q then .checksumError
  else .valid

end Sys2Proof.Machine
end

