-- ==== Sys2Proof/Machine/Operands.lean ====
section
/-! DEFINITION. The operands of a frame: the field decoders (rules R69, R70), and the result word a
host gets back (rules R56, R57). -/

namespace Sys2Proof.Machine

/-- `decode_active(f, a)` (rule R69): bytes 2 and 10 are dropped. -/
def decodeActive (f : Frame) (a : Bool) : Result :=
  .readingActive
    { status := f[1], co2 := be16 f[3] f[4], ch2o := be16 f[5] f[6], tvocRaw := be16 f[7] f[8], alarm := a }

/-- `decode_query(q, a)` (rule R70): bytes 1..4 are dropped. -/
def decodeQuery (q : Response) (a : Bool) : Result :=
  .readingQuery { tvocRaw := be16 q[5] q[6], raw2 := be16 q[7] q[8], alarm := a }

/-- The exact physical TVOC value in ppm that a host reads from the raw field (rules R49, R71). The
block computes no fraction: nothing in the machine uses this. -/
def tvocPpm (raw : Half) : Rat := (raw.toNat : Rat) / 1000

/-- `RES[2:0]` (rule R56). -/
def Result.code : Result → BitVec 3
  | .done => 0b000
  | .noData => 0b001
  | .noResponse => 0b010
  | .checksumError => 0b011
  | .readingActive _ => 0b100
  | .readingQuery _ => 0b101
  | .ioError => 0b110
  | .reject => 0b111

/-- The result port (rules R57, R61). -/
structure ResultPort where
  resCode : BitVec 3
  resStatus : Byte
  resCo2 : Half
  resCh2o : Half
  resTvoc : Half
  resRaw2 : Half
  resAlarm : Bool
deriving DecidableEq, Repr

/-- A result on the result port: every absent field is driven to 0 (rule R57). -/
def Result.onPort (r : Result) : ResultPort :=
  match r with
  | .readingActive x =>
    { resCode := r.code, resStatus := x.status, resCo2 := x.co2, resCh2o := x.ch2o, resTvoc := x.tvocRaw,
      resRaw2 := 0, resAlarm := x.alarm }
  | .readingQuery x =>
    { resCode := r.code, resStatus := 0, resCo2 := 0, resCh2o := 0, resTvoc := x.tvocRaw, resRaw2 := x.raw2,
      resAlarm := x.alarm }
  | .done | .noData | .noResponse | .checksumError | .ioError | .reject =>
    { resCode := r.code, resStatus := 0, resCo2 := 0, resCh2o := 0, resTvoc := 0, resRaw2 := 0, resAlarm := false }

end Sys2Proof.Machine
end

