-- ==== Sys2Proof/Machine/Poll.lean ====
section
/-! DEFINITION. The frame synchronizer: `POLL` (rule R78), and an active frame on the validator itself
(rules R66, R69 and log entry 5). -/

namespace Sys2Proof.Machine

/-- Store with resync: a header resets `FILL` to 0 before it is stored (rule R79). -/
def storeWithResync (b : Byte) (s : State) : State :=
  let s := if b = Config.hdr then s.setFill 0 else s
  s.storeRx s.fill.toNat b

/-- `FILL <- FILL + 1` (rule R80). -/
def advance (s : State) : State := s.setFill (s.fill + 1)

/-- Completion: `FILL <- 0`, validation, and on a valid frame the alarm sample, the decode and the
flush, in that order (rules R81 to R84). -/
def completeFrame (s : State) : State :=
  let s := s.setFill 0
  match validateActive s.rxbuf with
  | .checksumError => s.ret .checksumError
  | .valid =>
    let r := decodeActive s.rxbuf (alarmSample s)
    orIoError (rxFlush s) fun _ s => s.ret r

/-- What `POLL` does with the byte it consumed (rules R79 to R85). -/
def takeByte (b : Byte) (s : State) : State :=
  let s := advance (storeWithResync b s)
  if s.fill.toNat ≤ 10 then s.ret .noData else completeFrame s

/-- The pseudocode of `POLL` (rule R78). -/
def pollBody (s : State) : State :=
  orIoError (rxAvail s) fun a s =>
    if a = 0 then s.ret .noData
    else orIoError (rxPop s) takeByte

/-- `POLL` (rule R78). -/
def execPoll (s : State) : Host.Outcome State Fault Refusal := accept pollBody s

/-- What the validator and decoder answer for an active frame and an alarm sample (rules R66, R69). -/
def activeAnswer (f : Frame) (a : Bool) : Result :=
  match validateActive f with
  | .checksumError => .checksumError
  | .valid => decodeActive f a

/-- A frame on the active validator itself: what it answers stands in `unitResult` (log entry 5). -/
def validateActiveAlone (f : Frame) (s : State) : State :=
  s.setUnitResult (some (activeAnswer f (alarmSample s)))

/-- An active frame on the validator: it writes no register (rules R66, R69; log entry 5). -/
def execActiveFrame (hdr status byte2 : Byte) (co2 ch2o tvoc : Half) (csum byte10 : Byte) (s : State) :
    Host.Outcome State Fault Refusal :=
  accept (validateActiveAlone (activeLayout hdr status byte2 co2 ch2o tvoc csum byte10)) s

end Sys2Proof.Machine
end

