-- ==== Sys2Proof/Machine/Query.lean ====
section
/-! DEFINITION. The query transaction: `QUERY` (rule R97), and a query response on the validator itself
(rules R67, R70 and log entry 5). -/

namespace Sys2Proof.Machine

/-- What the validator and decoder answer for a response and an alarm sample (rules R67, R70). -/
def queryAnswer (w : QWinLo) (q : Response) (a : Bool) : Result :=
  match validateQuery w q with
  | .checksumError => .checksumError
  | .valid => decodeQuery q a

/-- The outcome of a query that captured `n` bytes into `QCAP` (rules R100, R102). -/
def captureOutcome (n : Nat) (s : State) : Result :=
  if n < Config.qMin then .noResponse
  else queryAnswer s.params.qwinLo (capturedResponse s.qcap) (alarmSample s)

/-- The capture: `QCAP[0..n-1] <- RxRead(n)`; after a failed read `QCAP` is unspecified (rules R98, R107). -/
def captureBytes (n : Nat) (s : State) : Prim Unit :=
  match rxRead n s with
  | .failed s => .failed s.freeQcap
  | .ok bs s => .ok () (s.setQcap (storeFrom s.qcap 0 bs))

/-- The part of `QUERY` after its wait (rules R98 to R102). -/
def readResponse (s : State) : State :=
  orIoError (rxAvail s) fun a s =>
    if a = 0 then s.ret .noResponse
    else
      let n := min a Config.frameLen
      orIoError (captureBytes n s) fun _ s => s.ret (captureOutcome n s)

/-- The pseudocode of `QUERY` (rule R97). -/
def queryBody (s : State) : State :=
  orIoError (rxFlush s) fun _ s =>
    orIoError (sendCmd cmdQreqBytes s) fun _ s =>
      readResponse (wait Config.tQWaitMs s)

/-- `QUERY` (rule R97). -/
def execQuery (s : State) : Host.Outcome State Fault Refusal := accept queryBody s

/-- A response on the query validator itself: what it answers stands in `unitResult` (log entry 5). -/
def validateQueryAlone (q : Response) (s : State) : State :=
  s.setUnitResult (some (queryAnswer s.params.qwinLo q (alarmSample s)))

/-- A query response on the validator: it writes no register, and byte 10 is not used, present or
absent (rules R67, R70, R101; log entry 5). -/
def execQueryResponse (hdr byte1 byte2 byte3 byte4 : Byte) (tvoc raw2 : Half) (csum : Byte)
    (_byte10 : Option Byte) (s : State) : Host.Outcome State Fault Refusal :=
  accept (validateQueryAlone (responseLayout hdr byte1 byte2 byte3 byte4 tvoc raw2 csum)) s

end Sys2Proof.Machine
end

