-- ==== Sys2Proof/Machine/Reserved.lean ====
section
/-! DEFINITION. The reserved op codes: each returns `Reject`, writes no register and performs no
channel or input primitive (rule R58). -/

namespace Sys2Proof.Machine

/-- `return Reject()` (rule R58). -/
def rejectBody (s : State) : State := s.ret .reject

/-- Reserved op code `000` (rule R58). -/
def execReserved000 (s : State) : Host.Outcome State Fault Refusal := accept rejectBody s

/-- Reserved op code `101` (rule R58). -/
def execReserved101 (s : State) : Host.Outcome State Fault Refusal := accept rejectBody s

/-- Reserved op code `110` (rule R58). -/
def execReserved110 (s : State) : Host.Outcome State Fault Refusal := accept rejectBody s

/-- Reserved op code `111` (rule R58). -/
def execReserved111 (s : State) : Host.Outcome State Fault Refusal := accept rejectBody s

end Sys2Proof.Machine
end

