-- ==== Sys2Proof/Machine/Dispatch.lean ====
section
/-! DEFINITION. The meaning of each instruction, one arm for each constructor. -/

namespace Sys2Proof.Machine

def exec (i : Instr) (s : State) : Host.Outcome State Fault Refusal :=
  match i with
  | .setact => Sys2Proof.Machine.execSetact s
  | .setqry => Sys2Proof.Machine.execSetqry s
  | .stopact => Sys2Proof.Machine.execStopact s
  | .poll => Sys2Proof.Machine.execPoll s
  | .query => Sys2Proof.Machine.execQuery s
  | .reserved000 => Sys2Proof.Machine.execReserved000 s
  | .reserved101 => Sys2Proof.Machine.execReserved101 s
  | .reserved110 => Sys2Proof.Machine.execReserved110 s
  | .reserved111 => Sys2Proof.Machine.execReserved111 s
  | .cmdActive => Sys2Proof.Machine.execCmdActive s
  | .cmdQmode => Sys2Proof.Machine.execCmdQmode s
  | .cmdQreq => Sys2Proof.Machine.execCmdQreq s
  | .activeFrame hdr status byte2 co2 ch2o tvoc csum byte10 => Sys2Proof.Machine.execActiveFrame hdr status byte2 co2 ch2o tvoc csum byte10 s
  | .queryResponse hdr byte1 byte2 byte3 byte4 tvoc raw2 csum byte10 => Sys2Proof.Machine.execQueryResponse hdr byte1 byte2 byte3 byte4 tvoc raw2 csum byte10 s

end Sys2Proof.Machine
end

