-- ==== Sys2Proof/Machine/Step.lean ====
section
/-! DEFINITION. One step of a run (rules R37, R38, R142): the next pending input is taken and carried
out whole. With no input pending the block is idle and keeps its registers (rule R129). -/

namespace Sys2Proof.Machine

/-- One step. TVOC-LINK fetches no instructions (rule R44): the next input of the host or of the
environment takes the place of a fetch. -/
def step (s : State) : Host.Outcome State Fault Refusal :=
  match s.inputs with
  | [] => .next s
  | .env a :: rest => .next (a.act (s.setInputs rest))
  | .construct path baud d :: rest => .next (construct path baud (s.begin rest d))
  | .request p w d :: rest =>
    match decodeOn p w with
    | .error e => .refused (.undecodable e)
    | .ok i => exec i (s.begin rest d)

/-- The state with a word of the opcode table as the next pending input, in an environment in which no
primitive fails and nothing arrives during a wait (log entries 4 and 8). -/
def State.withFetchWord (s : State) (nbits w : Nat) : State :=
  match tableWord nbits w with
  | none => s
  | some (p, bytes) => s.setInputs (.request p bytes Draws.quiet :: s.inputs)

end Sys2Proof.Machine
end

