-- ==== Sys2Proof/Safety.lean ====
section
/-! DEFINITION. The terms in which claims about TVOC-LINK are made: when an operation is accepted, the
invariants of a state between operations (rules R18, R24, R30), states that differ only in what no
operation can observe (rules R20, R25), and repeated operations. -/

namespace Sys2Proof.Machine

/-- An operation is accepted: `LIVE` = 1 and `FILL` is legal (rules R18, R111). -/
abbrev State.ready (s : State) : Prop := s.live = true ∧ s.fill.toNat ≤ 10

/-- `FILL` is 0..10 between operations (rule R18). -/
abbrev State.fillLegal (s : State) : Prop := s.fill.toNat ≤ 10

/-- Of the accumulated bytes `RXBUF[0..FILL-1]` only byte 0 can be `0xFE` (rule R24). -/
abbrev State.headerOnlyFirst (s : State) : Prop :=
  ∀ i : Fin 11, 1 ≤ i.val → i.val < s.fill.toNat → s.rxbuf[i] ≠ 0xFE

/-- `RXQ` holds at most `RX_DEPTH` bytes (rule R30). -/
abbrev State.rxqFits (s : State) : Prop := s.rxq.length ≤ s.params.rxDepth

/-- The invariant of a state between operations. -/
abbrev State.Inv (s : State) : Prop := s.fillLegal ∧ s.headerOnlyFirst ∧ s.rxqFits

/-- No channel primitive fails (rule R36). -/
abbrev Draws.noFailure (d : Draws) : Prop :=
  d.rxAvailFails = false ∧ d.rxPopFails = none ∧ d.rxReadFails = none ∧ d.rxFlushFails = none ∧
    d.txWriteFails = none ∧ d.chanOpenFails = false

/-- Two states that agree on everything but the contents of `RXBUF` at indices >= `FILL` (rule R25) and
the contents of `QCAP` (rule R20). -/
def State.sameButStale (s s' : State) : Prop :=
  s' = { s with rxbuf := s'.rxbuf, qcap := s'.qcap } ∧
    ∀ i : Fin 11, i.val < s.fill.toNat → s'.rxbuf[i] = s.rxbuf[i]

/-- Two outcomes of a step: the same stop, or next states related by `r`. -/
def sameOutcome (r : State → State → Prop) :
    Host.Outcome State Fault Refusal → Host.Outcome State Fault Refusal → Prop
  | .next t, .next t' => r t t'
  | .fault f, .fault f' => f = f'
  | .refused e, .refused e' => e = e'
  | .next _, .fault _ => False
  | .next _, .refused _ => False
  | .fault _, .next _ => False
  | .fault _, .refused _ => False
  | .refused _, .next _ => False
  | .refused _, .fault _ => False

/-- The outcomes each host operation may return (rule R112). A word that is no host operation returns none. -/
def mayReturn : Instr → Result → Bool
  | .setact, r => r == .done || r == .ioError
  | .setqry, r => r == .done || r == .ioError
  | .stopact, r => r == .done || r == .ioError
  | .poll, .readingActive _ => true
  | .poll, r => r == .noData || r == .checksumError || r == .ioError
  | .query, .readingQuery _ => true
  | .query, r => r == .noResponse || r == .checksumError || r == .ioError
  | .reserved000, r => r == .reject
  | .reserved101, r => r == .reject
  | .reserved110, r => r == .reject
  | .reserved111, r => r == .reject
  | .cmdActive, _ => false
  | .cmdQmode, _ => false
  | .cmdQreq, _ => false
  | .activeFrame .., _ => false
  | .queryResponse .., _ => false

/-- The same instruction carried out `n` times, one after the other. -/
def execTimes (i : Instr) : Nat → State → Host.Outcome State Fault Refusal
  | 0, s => .next s
  | n + 1, s =>
    match exec i s with
    | .next t => execTimes i n t
    | .fault f => .fault f
    | .refused e => .refused e

end Sys2Proof.Machine
end

