-- ==== Sys2Proof/WellFormed.lean ====
section
/-! DEFINITION. Which terms of the syntax are well-formed: byte 0 of an inbound frame is the header
`0xFE` (rules R46, R47). Every other operand takes every value its width admits. The block still
gives a frame with another byte 0 its meaning, `ChecksumError` (rules R58, R65). -/

namespace Sys2Proof

/-- The check of one term. -/
def Instr.wellFormed : Instr → Bool
  | .setact | .setqry | .stopact | .poll | .query => true
  | .reserved000 | .reserved101 | .reserved110 | .reserved111 => true
  | .cmdActive | .cmdQmode | .cmdQreq => true
  | .activeFrame hdr _ _ _ _ _ _ _ => hdr == Config.hdr
  | .queryResponse hdr _ _ _ _ _ _ _ _ => hdr == Config.hdr

end Sys2Proof
end

