-- ==== Sys2Proof/Certificates/Slice0/Obligations.lean ====
section
/-! DEFINITION. The statements about TVOC-LINK for the provers. -/

open Sys2Proof Sys2Proof.Machine

/-! ## Encodings -/

/-- Decoding an encoded instruction gives it back, for every instruction and every operand, well-formed
or not; `STOPACT` comes back as `SETQRY`, whose word it shares (R46, R47, R53, R55, R94). -/
def Obligations.DecodeOfEncodeIsTheInstruction : Prop :=
  ∀ i : Instr, decodeOn i.port (encode i) = .ok i.core

/-- Encoding undoes decoding: an instruction that a word of an interface decodes to stands on that interface
and encodes to exactly that word, so no two words of an interface share a meaning (R46, R47, R53, R55). -/
def Obligations.EncodeOfDecodeIsTheWord : Prop :=
  ∀ (p : Port) (w : List Byte) (i : Instr), decodeOn p w = .ok i → encode i = w ∧ i.port = p

/-- The op code map of R55: all three bits of `OP` select the operation. That a host-port value of 8 or
more, which no `OP` of three bits is, is refused as `opCodeTooWide` is the model's choice (log entry 12). -/
def Obligations.OpCodeMap : Prop :=
  decodeOn .host [0b000] = .ok .reserved000 ∧ decodeOn .host [0b001] = .ok .setact ∧
  decodeOn .host [0b010] = .ok .setqry ∧ decodeOn .host [0b011] = .ok .poll ∧
  decodeOn .host [0b100] = .ok .query ∧ decodeOn .host [0b101] = .ok .reserved101 ∧
  decodeOn .host [0b110] = .ok .reserved110 ∧ decodeOn .host [0b111] = .ok .reserved111 ∧
  ∀ b : Byte, 8 ≤ b.toNat → decodeOn .host [b] = .error (.opCodeTooWide b)

/-- The frames of the spec's own examples decode to their fields (R46, R47, R53). -/
def Obligations.FrameWordsDecode : Prop :=
  decodeOn .serializer [0xFE, 0x00, 0x78, 0x40, 0x00, 0x00, 0x00, 0x00, 0xB8] = .ok .cmdActive ∧
  decodeOn .serializer [0xFE, 0x00, 0x78, 0x41, 0x00, 0x00, 0x00, 0x00, 0xB9] = .ok .cmdQmode ∧
  decodeOn .serializer [0xFE, 0x00, 0x86, 0x00, 0x00, 0x00, 0x00, 0x00, 0x86] = .ok .cmdQreq ∧
  decodeOn .activeFrame [0xFE, 0x01, 0x00, 0x02, 0x11, 0x00, 0x00, 0x01, 0xE8, 0xFC, 0x00] =
    .ok (.activeFrame 0xFE 0x01 0x00 529 0 488 0xFC 0x00) ∧
  decodeOn .queryFrame [0xFE, 0x00, 0x00, 0x00, 0x00, 0x01, 0xF4, 0x00, 0x64, 0x59, 0x00] =
    .ok (.queryResponse 0xFE 0x00 0x00 0x00 0x00 500 100 0x59 (some 0x00)) ∧
  decodeOn .queryFrame [0xFE, 0x00, 0x00, 0x00, 0x00, 0x01, 0xF4, 0x00, 0x64, 0x59] =
    .ok (.queryResponse 0xFE 0x00 0x00 0x00 0x00 500 100 0x59 none)

/-- R96: each constant command's trailing byte is the sum of `K[1..7]` mod 256: `B8`, `B9`, `86`. -/
def Obligations.CommandChecksumRoundTrip : Prop :=
  (sum8 (slice cmdActiveBytes 1 7) = 0xB8 ∧ cmdActiveBytes.drop 8 = [0xB8]) ∧
  (sum8 (slice cmdQmodeBytes 1 7) = 0xB9 ∧ cmdQmodeBytes.drop 8 = [0xB9]) ∧
  (sum8 (slice cmdQreqBytes 1 7) = 0x86 ∧ cmdQreqBytes.drop 8 = [0x86])

/-- R62: `sum8` is the sum mod 256 and does not depend on the order of the bytes. -/
def Obligations.SumIsModuloAndOrderFree : Prop :=
  ∀ a b : List Byte, (sum8 a).toNat = (a.map BitVec.toNat).sum % 256 ∧ (a.Perm b → sum8 a = sum8 b)

/-- R7, R39: a two-byte field is `hi * 256 + lo` on 16 bits with no loss, and its bytes are recovered. -/
def Obligations.FieldsAreBigEndian : Prop :=
  (∀ hi lo : Byte, (be16 hi lo).toNat = hi.toNat * 256 + lo.toNat ∧ hi8 (be16 hi lo) = hi ∧ lo8 (be16 hi lo) = lo) ∧
  ∀ v : Half, be16 (hi8 v) (lo8 v) = v

/-- R56 and the absent fields of R57: the result codes, and 0 on the port for what a result does not
carry. -/
def Obligations.ResultWordAndPort : Prop :=
  (Result.done.code = 0b000 ∧ Result.noData.code = 0b001 ∧ Result.noResponse.code = 0b010 ∧
    Result.checksumError.code = 0b011 ∧ (∀ x, (Result.readingActive x).code = 0b100) ∧
    (∀ x, (Result.readingQuery x).code = 0b101) ∧ Result.ioError.code = 0b110 ∧ Result.reject.code = 0b111) ∧
  (∀ r : Result, r.onPort.resCode = r.code) ∧
  (∀ x, (Result.readingActive x).onPort =
    { resCode := 0b100, resStatus := x.status, resCo2 := x.co2, resCh2o := x.ch2o, resTvoc := x.tvocRaw,
      resRaw2 := 0, resAlarm := x.alarm }) ∧
  (∀ x, (Result.readingQuery x).onPort =
    { resCode := 0b101, resStatus := 0, resCo2 := 0, resCh2o := 0, resTvoc := x.tvocRaw, resRaw2 := x.raw2,
      resAlarm := x.alarm }) ∧
  ∀ r ∈ [Result.done, Result.noData, Result.noResponse, Result.checksumError, Result.ioError, Result.reject],
    r.onPort = { resCode := r.code, resStatus := 0, resCo2 := 0, resCh2o := 0, resTvoc := 0, resRaw2 := 0, resAlarm := false }

/-! ## Steps, acceptance, construction, environment -/

/-- A step runs the decoded word: when the next input is a word that decodes to `i`, the step is exec of
`i` after the input is taken, its draws are in force and `QCAP` holds unspecified bytes (model's choice,
log entries 3 and 4). That a word that decodes to nothing is refused by name is the model's choice too (log
entry 12). -/
def Obligations.StepRunsTheDecodedWord : Prop :=
  ∀ (s : State) (p : Port) (w : List Byte) (d : Draws) (rest : List Event),
    s.inputs = .request p w d :: rest →
    (∀ i, decodeOn p w = .ok i →
      step s = exec i { s with inputs := rest, draws := d, qcap := freeBytes s.freeCount, freeCount := s.freeCount + 1 }) ∧
    (∀ e, decodeOn p w = .error e → step s = .refused (.undecodable e))

/-- A table word placed as the next input is the instruction that the next step runs, in an environment in
which nothing fails (model's choice, log entries 4 and 8). -/
def Obligations.FetchedTableWordRuns : Prop :=
  ∀ (s : State) (nbits w : Nat) (i : Instr), decodeTableWord nbits w = some i →
    step (s.withFetchWord nbits w) =
      exec i { s with draws := Draws.quiet, qcap := freeBytes s.freeCount, freeCount := s.freeCount + 1 }

/-- With no input pending the block is idle and keeps everything (R129). -/
def Obligations.IdleBlockKeepsItsState : Prop :=
  ∀ s : State, s.inputs = [] → step s = .next s

/-- Between operations the environment may append to `RXQ`, drop from it, change `ALARM` and change the
sensor's mode, and changes nothing else (R30, R37, R95). That an append beyond `RX_DEPTH` loses the newest
bytes is the model's choice (log entry 9): the spec does not say what an overflow loses, and
`EveryOverflowIsPossible` says that the drops cover every other loss. -/
def Obligations.EnvironmentStepsChangeOnlyTheEnvironment : Prop :=
  ∀ (s : State) (rest : List Event),
    (∀ bs, s.inputs = .env (.rxAppend bs) :: rest →
      step s = .next { s with inputs := rest, rxq := s.rxq ++ bs.take (s.params.rxDepth - s.rxq.length) }) ∧
    (∀ keep, s.inputs = .env (.rxDrop keep) :: rest →
      step s = .next { s with inputs := rest, rxq := keepMarked keep s.rxq }) ∧
    (∀ v, s.inputs = .env (.setAlarm v) :: rest → step s = .next { s with inputs := rest, alarm := v }) ∧
    (∀ m, s.inputs = .env (.setSensorMode m) :: rest → step s = .next { s with inputs := rest, sensorMode := m })

/-- However `RXQ` overflows, the environment's actions cover it: what is left after bytes `bs` arrive may be
any part, in order, of the old queue and `bs` that fits `RX_DEPTH` (R30, R37). -/
def Obligations.EveryOverflowIsPossible : Prop :=
  ∀ (s : State) (bs l : List Byte), l.Sublist (s.rxq ++ bs) → l.length ≤ s.params.rxDepth →
    ∃ keep bs', bs'.Sublist bs ∧ (actAll [.rxDrop keep, .rxAppend bs'] s).rxq = l

/-- R130: construction, from any state. `FILL` becomes 0; a failed open or a failed flush leaves `LIVE` = 0
and returns `IoError`; otherwise `RXQ` is empty, `LIVE` = 1 and it returns `Done`. -/
def Obligations.ConstructionFromAnyState : Prop :=
  ∀ (s : State) (path : String) (baud : Nat) (d : Draws) (rest : List Event),
    s.inputs = .construct path baud d :: rest →
    ∃ t, step s = .next t ∧ t.fill = 0 ∧ t.params = { s.params with devicePath := path, baud := baud } ∧
      t.tx = s.tx ∧ t.alarm = s.alarm ∧ t.sensorMode = s.sensorMode ∧ t.inputs = rest ∧ t.draws = d ∧
      t.unitResult = s.unitResult ∧
      (d.chanOpenFails = true → t.live = false ∧ t.rxq = s.rxq ∧ t.outcomes = s.outcomes ++ [.ioError]) ∧
      (d.chanOpenFails = false →
        (∀ k, d.rxFlushFails = some k →
          t.live = false ∧ t.rxq = s.rxq.drop k ∧ t.outcomes = s.outcomes ++ [.ioError]) ∧
        (d.rxFlushFails = none → t.live = true ∧ t.rxq = [] ∧ t.outcomes = s.outcomes ++ [.done]))

/-- The state right after reset has the values R27 states: `FILL` = 0, `LIVE` = 1 and `RXQ` empty; so it
accepts operations and meets the invariant. -/
def Obligations.ResetValuesAndInvariant : Prop :=
  State.reset.fill = 0 ∧ State.reset.live = true ∧ State.reset.rxq = [] ∧ State.reset.ready ∧ State.reset.Inv

/-- R111: with `LIVE` = 0 there is no step, for any instruction. R18: a state with `FILL` in 11..15 is
refused, for any instruction. That the `LIVE` test comes first is the model's choice (log entry 6), and so is
that the command and inbound frames run on their own, under the same conditions (log entry 5). -/
def Obligations.OperationsStopWhenNotReady : Prop :=
  ∀ (i : Instr) (s : State),
    (s.live = false → exec i s = .fault .notLive) ∧
    (s.live = true → 10 < s.fill.toNat → exec i s = .refused .fillOutOfRange)

/-- An accepted operation runs to its return: every instruction with every operand answers a next state
exactly when `LIVE` = 1 (R38, R111) and `FILL` is legal (R18). That the command and inbound frames run on
their own, under the same conditions, is the model's choice (log entry 5). -/
def Obligations.ReadyStatesRunEveryInstruction : Prop :=
  ∀ (i : Instr) (s : State), (∃ t, exec i s = .next t) ↔ (s.live = true ∧ s.fill.toNat ≤ 10)

/-! ## The command serializer -/

/-- R92, `SETACT`, op code `001`: `FILL` is cleared, then the nine bytes are sent and `Done` returned; a failed write may
have sent any leading part, and returns `IoError` with `FILL` = 0. Nothing else changes. -/
def Obligations.SetactClearsFillAndSends : Prop :=
  decodeOn .host [0b001] = .ok .setact ∧
  ∀ s : State, s.live = true → s.fill.toNat ≤ 10 →
    (s.draws.txWriteFails = none →
      exec .setact s = .next { s with
        fill := 0, outcomes := s.outcomes ++ [.done],
        tx := s.tx ++ [0xFE, 0x00, 0x78, 0x40, 0x00, 0x00, 0x00, 0x00, 0xB8] }) ∧
    (∀ k, s.draws.txWriteFails = some k →
      exec .setact s = .next { s with
        fill := 0, outcomes := s.outcomes ++ [.ioError],
        tx := s.tx ++ [0xFE, 0x00, 0x78, 0x40, 0x00, 0x00, 0x00, 0x00, 0xB8].take k })

/-- R93, `SETQRY`, op code `010`: as `SETACT`, with `CMD_QMODE`. -/
def Obligations.SetqryClearsFillAndSends : Prop :=
  decodeOn .host [0b010] = .ok .setqry ∧
  ∀ s : State, s.live = true → s.fill.toNat ≤ 10 →
    (s.draws.txWriteFails = none →
      exec .setqry s = .next { s with
        fill := 0, outcomes := s.outcomes ++ [.done],
        tx := s.tx ++ [0xFE, 0x00, 0x78, 0x41, 0x00, 0x00, 0x00, 0x00, 0xB9] }) ∧
    (∀ k, s.draws.txWriteFails = some k →
      exec .setqry s = .next { s with
        fill := 0, outcomes := s.outcomes ++ [.ioError],
        tx := s.tx ++ [0xFE, 0x00, 0x78, 0x41, 0x00, 0x00, 0x00, 0x00, 0xB9].take k })

/-- R94: `STOPACT` is `SETQRY` in its word and its effects, whole and written out. -/
def Obligations.StopactIsSetqry : Prop :=
  encode .stopact = [0b010] ∧ encode .setqry = [0b010] ∧ (∀ s : State, exec .stopact s = exec .setqry s) ∧
  ∀ s : State, s.live = true → s.fill.toNat ≤ 10 → s.draws.txWriteFails = none →
    exec .stopact s = .next { s with
        fill := 0, outcomes := s.outcomes ++ [.done],
        tx := s.tx ++ [0xFE, 0x00, 0x78, 0x41, 0x00, 0x00, 0x00, 0x00, 0xB9] }

/-- R90: a command frame on the serializer is sent, header first, with no register read or written; a failed
write may have sent any leading part. (That the words run on their own, and that what they give stands in
`unitResult`, is the model's choice, log entry 5.) -/
def Obligations.SerializerSendsCommandFrames : Prop :=
  ∀ (s : State) (i : Instr) (k : List Byte),
    (i, k) ∈ [(Instr.cmdActive, [0xFE, 0x00, 0x78, 0x40, 0x00, 0x00, 0x00, 0x00, 0xB8]),
      (Instr.cmdQmode, [0xFE, 0x00, 0x78, 0x41, 0x00, 0x00, 0x00, 0x00, 0xB9]),
      (Instr.cmdQreq, [0xFE, 0x00, 0x86, 0x00, 0x00, 0x00, 0x00, 0x00, 0x86])] →
    s.live = true → s.fill.toNat ≤ 10 →
    (s.draws.txWriteFails = none → exec i s = .next { s with tx := s.tx ++ k, unitResult := none }) ∧
    (∀ n, s.draws.txWriteFails = some n →
      exec i s = .next { s with tx := s.tx ++ k.take n, unitResult := some .ioError })

/-- R58: a reserved op code returns `Reject` and changes nothing. -/
def Obligations.ReservedOpCodesReject : Prop :=
  ∀ (s : State) (i : Instr), i ∈ [Instr.reserved000, .reserved101, .reserved110, .reserved111] →
    s.live = true → s.fill.toNat ≤ 10 → exec i s = .next { s with outcomes := s.outcomes ++ [.reject] }

/-! ## Validators and decoders -/

/-- R63, R65, R66: an active frame is valid exactly when its byte 0 is `0xFE` and bytes 3..8 sum, mod 256,
to byte 9. -/
def Obligations.ActiveValidatorRule : Prop :=
  ∀ f : Frame, validateActive f = .valid ↔
    (f[0] = 0xFE ∧
      (f[3].toNat + f[4].toNat + f[5].toNat + f[6].toNat + f[7].toNat + f[8].toNat) % 256 = f[9].toNat)

/-- R67, R68: a query response is valid exactly when its byte 0 is `0xFE` and its 7-byte window, bytes 1..7
or 2..8 as `QWIN_LO` says, sums to byte 9 mod 256. -/
def Obligations.QueryValidatorRule : Prop :=
  ∀ q : Response,
    (validateQuery .one q = .valid ↔ (q[0] = 0xFE ∧
      (q[1].toNat + q[2].toNat + q[3].toNat + q[4].toNat + q[5].toNat + q[6].toNat + q[7].toNat) % 256 = q[9].toNat)) ∧
    (validateQuery .two q = .valid ↔ (q[0] = 0xFE ∧
      (q[2].toNat + q[3].toNat + q[4].toNat + q[5].toNat + q[6].toNat + q[7].toNat + q[8].toNat) % 256 = q[9].toNat))

/-- R66, R69: an active frame on the validator gives its reading, field by field, or `ChecksumError`, and
changes no register and no channel (that it runs on its own is the model's choice, log entry 5). -/
def Obligations.ActiveFrameIsValidatedAndDecoded : Prop :=
  ∀ (s : State) (hdr status byte2 : Byte) (co2 ch2o tvoc : Half) (csum byte10 : Byte),
    s.live = true → s.fill.toNat ≤ 10 →
    exec (.activeFrame hdr status byte2 co2 ch2o tvoc csum byte10) s = .next { s with unitResult := some (
      if hdr = 0xFE ∧ (co2.toNat / 256 + co2.toNat % 256 + ch2o.toNat / 256 + ch2o.toNat % 256 +
          tvoc.toNat / 256 + tvoc.toNat % 256) % 256 = csum.toNat
      then .readingActive { status := status, co2 := co2, ch2o := ch2o, tvocRaw := tvoc, alarm := s.alarm }
      else .checksumError) }

/-- R67, R70, R101: a query response on the validator gives its reading or `ChecksumError`, whether or not
byte 10 is present, and changes no register and no channel (log entry 5 as above). -/
def Obligations.QueryResponseIsValidatedAndDecoded : Prop :=
  ∀ (s : State) (hdr byte1 byte2 byte3 byte4 : Byte) (tvoc raw2 : Half) (csum : Byte) (byte10 : Option Byte),
    s.live = true → s.fill.toNat ≤ 10 →
    exec (.queryResponse hdr byte1 byte2 byte3 byte4 tvoc raw2 csum byte10) s = .next { s with unitResult := some (
      if hdr = 0xFE ∧ (match s.params.qwinLo with
          | .one => byte1.toNat + byte2.toNat + byte3.toNat + byte4.toNat + tvoc.toNat / 256 + tvoc.toNat % 256 +
              raw2.toNat / 256
          | .two => byte2.toNat + byte3.toNat + byte4.toNat + tvoc.toNat / 256 + tvoc.toNat % 256 +
              raw2.toNat / 256 + raw2.toNat % 256) % 256 = csum.toNat
      then .readingQuery { tvocRaw := tvoc, raw2 := raw2, alarm := s.alarm }
      else .checksumError) }

/-- R72 for active frames: one changed byte in the window or at the checksum position is detected; one
changed at 1, 2 or 10 is not; two changes in the window that cancel are not. -/
def Obligations.ActiveSingleByteErrors : Prop :=
  ∀ f : Frame, validateActive f = .valid →
    (∀ (j : Fin 11) (b : Byte), b ≠ f[j] →
      (3 ≤ j.val → j.val ≤ 9 → validateActive (f.set j.val b j.isLt) = .checksumError) ∧
      (j.val = 1 ∨ j.val = 2 ∨ j.val = 10 → validateActive (f.set j.val b j.isLt) = .valid)) ∧
    ∀ (i j : Fin 11) (b c : Byte), 3 ≤ i.val → i.val < j.val → j.val ≤ 8 → b + c = f[i] + f[j] →
      validateActive ((f.set i.val b i.isLt).set j.val c j.isLt) = .valid

/-- R72 for query responses: one changed byte in the window or at the checksum position is detected; one
changed outside the window, but for bytes 0 and 9, is not. -/
def Obligations.QuerySingleByteErrors : Prop :=
  ∀ (w : QWinLo) (q : Response), validateQuery w q = .valid →
    ∀ (j : Fin 10) (b : Byte), b ≠ q[j] →
      ((w.toNat ≤ j.val ∧ j.val ≤ w.toNat + 6) ∨ j.val = 9 →
        validateQuery w (q.set j.val b j.isLt) = .checksumError) ∧
      (1 ≤ j.val → j.val ≤ 8 → ¬ (w.toNat ≤ j.val ∧ j.val ≤ w.toNat + 6) →
        validateQuery w (q.set j.val b j.isLt) = .valid)

/-! ## POLL -/

/-- R76: with no byte available `POLL` returns `NoData` and changes nothing. -/
def Obligations.PollOfEmptyChannel : Prop :=
  ∀ s : State, s.live = true → s.fill.toNat ≤ 10 → s.draws.rxAvailFails = false → s.rxq = [] →
    exec .poll s = .next { s with outcomes := s.outcomes ++ [.noData] }

/-- R77, R79, R80, R85: a byte that is no header and does not complete the frame is stored at `FILL`, which
advances, and `POLL` returns `NoData`. One byte leaves `RXQ`; nothing else changes. -/
def Obligations.PollStoresAtFill : Prop :=
  ∀ (s : State) (b : Byte) (q : List Byte), s.live = true → s.fill.toNat < 10 →
    s.draws.rxAvailFails = false → s.draws.rxPopFails = none → s.rxq = b :: q → b ≠ 0xFE →
    exec .poll s = .next { s with
        rxq := q, rxbuf := s.rxbuf.setIfInBounds s.fill.toNat b, fill := s.fill + 1,
        outcomes := s.outcomes ++ [.noData] }

/-- R79, R80, R85: a header is stored at index 0 whatever `FILL` held, 10 included; `FILL` becomes 1 and
`POLL` returns `NoData`. -/
def Obligations.PollResyncsOnHeader : Prop :=
  ∀ (s : State) (q : List Byte), s.live = true → s.fill.toNat ≤ 10 →
    s.draws.rxAvailFails = false → s.draws.rxPopFails = none → s.rxq = 0xFE :: q →
    exec .poll s = .next { s with
        rxq := q, rxbuf := s.rxbuf.setIfInBounds 0 0xFE, fill := 1,
        outcomes := s.outcomes ++ [.noData] }

/-- R81, R82, R83: a completed frame that fails the header test or the checksum test gives `ChecksumError`
with `FILL` = 0, no flush and no alarm sample. -/
def Obligations.PollReportsBadFrame : Prop :=
  ∀ (s : State) (b : Byte) (q : List Byte) (f : Frame), s.live = true → s.fill = 10 →
    s.draws.rxAvailFails = false → s.draws.rxPopFails = none → s.rxq = b :: q → b ≠ 0xFE →
    f = s.rxbuf.setIfInBounds 10 b →
    (f[0] ≠ 0xFE ∨
      (f[3].toNat + f[4].toNat + f[5].toNat + f[6].toNat + f[7].toNat + f[8].toNat) % 256 ≠ f[9].toNat) →
    exec .poll s = .next { s with rxq := q, rxbuf := f, fill := 0, outcomes := s.outcomes ++ [.checksumError] }

/-- R81, R84: a completed valid frame gives its reading with the alarm level, `FILL` = 0 and `RXQ` flushed;
if the flush fails the reading is lost and `IoError` returned. -/
def Obligations.PollReturnsReading : Prop :=
  ∀ (s : State) (b : Byte) (q : List Byte) (f : Frame), s.live = true → s.fill = 10 →
    s.draws.rxAvailFails = false → s.draws.rxPopFails = none → s.rxq = b :: q → b ≠ 0xFE →
    f = s.rxbuf.setIfInBounds 10 b → f[0] = 0xFE →
    (f[3].toNat + f[4].toNat + f[5].toNat + f[6].toNat + f[7].toNat + f[8].toNat) % 256 = f[9].toNat →
    (s.draws.rxFlushFails = none →
      exec .poll s = .next { s with rxq := [], rxbuf := f, fill := 0, outcomes := s.outcomes ++ [.readingActive
        { status := f[1], co2 := be16 f[3] f[4], ch2o := be16 f[5] f[6], tvocRaw := be16 f[7] f[8],
          alarm := s.alarm }] }) ∧
    (∀ k, s.draws.rxFlushFails = some k →
      exec .poll s = .next { s with rxq := q.drop k, rxbuf := f, fill := 0, outcomes := s.outcomes ++ [.ioError] })

/-- R89: a failed `RxAvail` changes nothing; a failed `RxPop` changes no register and may have removed the
head byte; a flush that fails after a valid completion leaves `FILL` = 0 and the frame in `RXBUF`, may have
removed any leading part of `RXQ`, and returns no reading. No other step of `POLL` can fail. -/
def Obligations.PollReportsChannelFailure : Prop :=
  ∀ s : State, s.live = true → s.fill.toNat ≤ 10 →
    (s.draws.rxAvailFails = true → exec .poll s = .next { s with outcomes := s.outcomes ++ [.ioError] }) ∧
    (∀ k, s.draws.rxAvailFails = false → s.rxq ≠ [] → s.draws.rxPopFails = some k →
      exec .poll s = .next { s with rxq := s.rxq.drop (min k 1), outcomes := s.outcomes ++ [.ioError] }) ∧
    (∀ b q k f, s.draws.rxAvailFails = false → s.draws.rxPopFails = none → s.draws.rxFlushFails = some k →
      s.fill = 10 → s.rxq = b :: q → b ≠ 0xFE → f = s.rxbuf.setIfInBounds 10 b → validateActive f = .valid →
      exec .poll s = .next { s with rxq := q.drop k, rxbuf := f, fill := 0, outcomes := s.outcomes ++ [.ioError] }) ∧
    (s.draws.rxAvailFails = false → s.draws.rxPopFails = none → s.draws.rxFlushFails = none →
      ∃ t r, exec .poll s = .next t ∧ t.outcomes = s.outcomes ++ [r] ∧ r ≠ .ioError)

/-- The frame of `POLL` on `RXBUF` (R17): it writes at most the one byte at the index where the consumed byte
goes, 0 for a header and `FILL` for any other byte; no byte of the receive channel is reordered or added. -/
def Obligations.PollWritesOneBufferByte : Prop :=
  ∀ s t : State, exec .poll s = .next t →
    (∀ j : Fin 11, (∀ b q, s.rxq = b :: q → j.val ≠ (if b = 0xFE then 0 else s.fill.toNat)) →
      t.rxbuf[j] = s.rxbuf[j]) ∧
    ∃ n, t.rxq = s.rxq.drop n

/-- R87: after a header arrives, whatever `FILL` held, and ten bytes that are no headers follow it, the frame
that completes is exactly those eleven bytes, and its outcome is theirs. -/
def Obligations.ResyncFrameIsHeaderAndNextTen : Prop :=
  ∀ (s : State) (bs rest : List Byte), s.live = true → s.fill.toNat ≤ 10 → s.draws.noFailure →
    bs.length = 10 → (∀ b ∈ bs, b ≠ 0xFE) → s.rxq = 0xFE :: (bs ++ rest) →
    ∃ t, execTimes .poll 11 s = .next t ∧ t.rxbuf.toList = 0xFE :: bs ∧ t.fill = 0 ∧
      t.outcomes = s.outcomes ++ List.replicate 10 .noData ++ [activeAnswer t.rxbuf s.alarm] ∧
      t.rxq = (if activeAnswer t.rxbuf s.alarm = .checksumError then rest else [])

/-- R88: a valid frame with no header byte after byte 0, fed to eleven `POLL`s from any `FILL`, gives ten
`NoData` and then exactly its reading. -/
def Obligations.ElevenPollsReconstructTheFrame : Prop :=
  ∀ (s : State) (f : Frame) (rest : List Byte), s.live = true → s.fill.toNat ≤ 10 → s.draws.noFailure →
    s.rxq = f.toList ++ rest → f[0] = 0xFE → (∀ j : Fin 11, 1 ≤ j.val → f[j] ≠ 0xFE) →
    f[9].toNat = (f[3].toNat + f[4].toNat + f[5].toNat + f[6].toNat + f[7].toNat + f[8].toNat) % 256 →
    execTimes .poll 11 s = .next { s with
        rxbuf := f, fill := 0, rxq := [],
        outcomes := s.outcomes ++ List.replicate 10 .noData ++ [.readingActive
        { status := f[1], co2 := be16 f[3] f[4], ch2o := be16 f[5] f[6], tvocRaw := be16 f[7] f[8], alarm := s.alarm }] }

/-- R86: a frame with a header byte at some position 1..10 is never received as one frame: eleven `POLL`s give
eleven `NoData`, and the accumulation that is left starts at its last header byte. -/
def Obligations.FrameWithInnerHeaderIsNotReceived : Prop :=
  ∀ (s : State) (f : Frame) (rest : List Byte) (j : Fin 11), s.live = true → s.fill.toNat ≤ 10 →
    s.draws.noFailure → s.rxq = f.toList ++ rest → f[0] = 0xFE → 1 ≤ j.val → f[j] = 0xFE →
    (∀ m : Fin 11, j.val < m.val → f[m] ≠ 0xFE) →
    ∃ t, execTimes .poll 11 s = .next t ∧ t.outcomes = s.outcomes ++ List.replicate 11 .noData ∧
      t.fill.toNat = 11 - j.val ∧ t.rxbuf.toList.take (11 - j.val) = f.toList.drop j.val ∧ t.rxq = rest

/-- R24: a header and the bytes that follow it, while no other header comes and the frame is not complete,
stand in order in `RXBUF[0..FILL-1]`. -/
def Obligations.AccumulationHoldsTheLastBytes : Prop :=
  ∀ (s : State) (bs rest : List Byte), s.live = true → s.fill.toNat ≤ 10 → s.draws.noFailure →
    bs.length ≤ 9 → (∀ b ∈ bs, b ≠ 0xFE) → s.rxq = 0xFE :: (bs ++ rest) →
    ∃ t, execTimes .poll (bs.length + 1) s = .next t ∧ t.fill.toNat = bs.length + 1 ∧
      t.rxbuf.toList.take (bs.length + 1) = 0xFE :: bs ∧ t.rxq = rest ∧
      t.outcomes = s.outcomes ++ List.replicate (bs.length + 1) .noData

/-- R83: eleven bytes without a header, accumulated from `FILL` = 0, complete a frame that fails the header
test: ten `NoData`, then `ChecksumError`, with the rest of `RXQ` kept. -/
def Obligations.HeaderlessAccumulationIsRejected : Prop :=
  ∀ (s : State) (f : Frame) (rest : List Byte), s.live = true → s.fill = 0 → s.draws.noFailure →
    s.rxq = f.toList ++ rest → (∀ j : Fin 11, f[j] ≠ 0xFE) →
    execTimes .poll 11 s = .next { s with
        rxbuf := f, fill := 0, rxq := rest,
        outcomes := s.outcomes ++ List.replicate 10 .noData ++ [.checksumError] }

/-! ## QUERY -/

/-- R97, R99, R100, R102 with no channel failure: `RXQ` is flushed, the request is sent and the environment
acts during the wait, which gives `w`. No byte, or 1 to 9 bytes, give `NoResponse`; ten or more are captured,
up to eleven, and give the reading or `ChecksumError`, with the bytes beyond eleven left in `RXQ`. -/
def Obligations.QueryOutcomes : Prop :=
  ∀ s w : State, s.live = true → s.fill.toNat ≤ 10 → s.draws.noFailure →
    w = actAll s.draws.duringWait
      { s with rxq := [], tx := s.tx ++ [0xFE, 0x00, 0x86, 0x00, 0x00, 0x00, 0x00, 0x00, 0x86] } →
    (w.rxq = [] → exec .query s = .next { w with outcomes := s.outcomes ++ [.noResponse] }) ∧
    (1 ≤ w.rxq.length → w.rxq.length ≤ 9 →
      exec .query s = .next { w with
        rxq := [], qcap := storeFrom w.qcap 0 w.rxq,
        outcomes := s.outcomes ++ [.noResponse] }) ∧
    (∀ (b0 b1 b2 b3 b4 b5 b6 b7 b8 b9 : Byte) (more : List Byte),
      w.rxq = [b0, b1, b2, b3, b4, b5, b6, b7, b8, b9] ++ more →
      exec .query s = .next { w with
        rxq := more.drop 1, qcap := storeFrom w.qcap 0 (w.rxq.take 11),
        outcomes := s.outcomes ++ [
          if b0 = 0xFE ∧ (match s.params.qwinLo with
              | .one => b1.toNat + b2.toNat + b3.toNat + b4.toNat + b5.toNat + b6.toNat + b7.toNat
              | .two => b2.toNat + b3.toNat + b4.toNat + b5.toNat + b6.toNat + b7.toNat + b8.toNat) % 256 = b9.toNat
          then .readingQuery { tvocRaw := be16 b5 b6, raw2 := be16 b7 b8, alarm := w.alarm }
          else .checksumError] })

/-- R98: a capture of up to eleven bytes stands in `QCAP` in order, and the bytes beyond it are not written. -/
def Obligations.CaptureIsInOrder : Prop :=
  ∀ (v : Frame) (bs : List Byte) (j : Fin 11), bs.length ≤ 11 →
    (∀ h : j.val < bs.length, (storeFrom v 0 bs)[j] = bs[j.val]) ∧
    (bs.length ≤ j.val → (storeFrom v 0 bs)[j] = v[j])

/-- R107: a failure of the flush, the send, `RxAvail` or `RxRead` ends `QUERY` with `IoError`; what was sent
and removed is as the failing primitive left it. After a failed `RxRead` nothing is said of `QCAP`. -/
def Obligations.QueryReportsChannelFailure : Prop :=
  ∀ s w : State, s.live = true → s.fill.toNat ≤ 10 →
    w = actAll s.draws.duringWait
      { s with rxq := [], tx := s.tx ++ [0xFE, 0x00, 0x86, 0x00, 0x00, 0x00, 0x00, 0x00, 0x86] } →
    (∀ k, s.draws.rxFlushFails = some k →
      exec .query s = .next { s with rxq := s.rxq.drop k, outcomes := s.outcomes ++ [.ioError] }) ∧
    (∀ k, s.draws.rxFlushFails = none → s.draws.txWriteFails = some k →
      exec .query s = .next { s with
        rxq := [], outcomes := s.outcomes ++ [.ioError],
        tx := s.tx ++ [0xFE, 0x00, 0x86, 0x00, 0x00, 0x00, 0x00, 0x00, 0x86].take k }) ∧
    (s.draws.rxFlushFails = none → s.draws.txWriteFails = none → s.draws.rxAvailFails = true →
      exec .query s = .next { w with outcomes := s.outcomes ++ [.ioError] }) ∧
    (∀ k, s.draws.rxFlushFails = none → s.draws.txWriteFails = none → s.draws.rxAvailFails = false →
      w.rxq ≠ [] → s.draws.rxReadFails = some k →
      ∃ t, exec .query s = .next t ∧
        t = { w with
        rxq := w.rxq.drop (min k (min w.rxq.length 11)), qcap := t.qcap, freeCount := t.freeCount,
        outcomes := s.outcomes ++ [.ioError] })

/-- R108: `QUERY` neither writes `FILL` nor `RXBUF`, and what it leaves does not depend on them. -/
def Obligations.QueryLeavesTheSynchronizer : Prop :=
  ∀ s t : State, exec .query s = .next t →
    t.fill = s.fill ∧ t.rxbuf = s.rxbuf ∧
    ∀ (b : Frame) (v : BitVec 4), v.toNat ≤ 10 →
      exec .query { s with rxbuf := b, fill := v } = .next { t with rxbuf := b, fill := v }

/-- R104: two states that differ only in `RXBUF`, `FILL` and `QCAP` give the same `QUERY` outcome, and send
and leave the same bytes, under the same draws. -/
def Obligations.QueryDependsOnNoEarlierState : Prop :=
  ∀ (s : State) (b c : Frame) (v : BitVec 4), s.live = true → s.fill.toNat ≤ 10 → v.toNat ≤ 10 →
    ∃ t t', exec .query s = .next t ∧ exec .query { s with rxbuf := b, fill := v, qcap := c } = .next t' ∧
      t'.outcomes = t.outcomes ∧ t'.tx = t.tx ∧ t'.rxq = t.rxq

/-- R101: a ten-byte response is handled like the same ten bytes followed by any eleventh byte. -/
def Obligations.TenByteResponseIsEnough : Prop :=
  ∀ (s : State) (q : List Byte) (x : Byte), s.live = true → s.fill.toNat ≤ 10 → 11 ≤ s.params.rxDepth →
    q.length = 10 →
    ∃ t t',
      exec .query { s with draws := { Draws.quiet with duringWait := [.rxAppend q] } } = .next t ∧
      exec .query { s with draws := { Draws.quiet with duringWait := [.rxAppend (q ++ [x])] } } = .next t' ∧
      t.outcomes = t'.outcomes ∧ t.rxq = [] ∧ t'.rxq = [] ∧ t.tx = t'.tx

/-! ## Rules of the whole machine -/

/-- R26, the writes of its table: what each instruction leaves unchanged when it answers a next state. The
words on the serializer and the validators, which are no host operations, return no outcome (log entry 5). -/
def Obligations.AccessTableFrames : Prop :=
  ∀ (i : Instr) (s t : State), exec i s = .next t →
    t.live = s.live ∧ t.params = s.params ∧ t.inputs = s.inputs ∧ t.draws = s.draws ∧
    (i ≠ .poll → t.rxbuf = s.rxbuf) ∧
    (i ≠ .poll → i ≠ .setact → i ≠ .setqry → i ≠ .stopact → t.fill = s.fill) ∧
    (i ≠ .query → t.qcap = s.qcap ∧ t.alarm = s.alarm ∧ t.sensorMode = s.sensorMode ∧ t.freeCount = s.freeCount) ∧
    (i ≠ .poll → i ≠ .query → t.rxq = s.rxq) ∧
    (i ≠ .setact → i ≠ .setqry → i ≠ .stopact → i ≠ .query → i ≠ .cmdActive → i ≠ .cmdQmode → i ≠ .cmdQreq →
      t.tx = s.tx) ∧
    (i.port = .host → t.unitResult = s.unitResult) ∧
    (i.port ≠ .host → t.outcomes = s.outcomes)

/-- R112, R117: every accepted host operation returns exactly one outcome, and only an outcome of its own. -/
def Obligations.OneOutcomeOfItsOwn : Prop :=
  ∀ (i : Instr) (s t : State), i.port = .host → exec i s = .next t →
    ∃ r, t.outcomes = s.outcomes ++ [r] ∧ mayReturn i r = true

/-- R113, R114, R115: no outcome is fatal. Whatever an operation returned, the block accepts the next one.
That `i` and `j` may also be command and inbound frames, which run on their own, is the model's choice (log
entry 5). -/
def Obligations.NoOutcomeIsFatal : Prop :=
  ∀ (i j : Instr) (s t : State), exec i s = .next t → ∃ u, exec j t = .next u

/-- R18, R24, R30: every step keeps `FILL` legal, keeps a header byte out of every place of the accumulation
but the first, and keeps `RXQ` within its capacity. -/
def Obligations.EveryStepKeepsTheInvariant : Prop :=
  ∀ s t : State, s.Inv → step s = .next t → t.Inv

/-- R20, R25: what stands in `RXBUF` at indices >= `FILL`, and in `QCAP`, is unobservable. Two states that
agree on everything else stop alike or step to two states that do, with the same outcomes. -/
def Obligations.StaleContentIsUnobservable : Prop :=
  ∀ s s' : State, s.sameButStale s' → sameOutcome State.sameButStale (step s) (step s')

/-- R19: only construction writes `LIVE`. -/
def Obligations.OnlyConstructionWritesLive : Prop :=
  ∀ s t : State, step s = .next t → t.live ≠ s.live →
    ∃ path baud d rest, s.inputs = .construct path baud d :: rest

/-- R35, R52: the transmit channel is only appended to, and what one step sends is a leading part of one of
the three command frames. -/
def Obligations.OnlyCommandFramesAreSent : Prop :=
  ∀ s t : State, step s = .next t → ∃ k n,
    k ∈ [[0xFE, 0x00, 0x78, 0x40, 0x00, 0x00, 0x00, 0x00, 0xB8], [0xFE, 0x00, 0x78, 0x41, 0x00, 0x00, 0x00, 0x00, 0xB9],
      [0xFE, 0x00, 0x86, 0x00, 0x00, 0x00, 0x00, 0x00, (0x86 : Byte)]] ∧ t.tx = s.tx ++ k.take n

/-- R5: the parameters are fixed when the block is constructed. No step changes `QWIN_LO` or `RX_DEPTH`, and
only a construction sets `DEVICE_PATH` and `BAUD`. -/
def Obligations.ParametersAreFixed : Prop :=
  ∀ s t : State, step s = .next t →
    t.params.qwinLo = s.params.qwinLo ∧ t.params.rxDepth = s.params.rxDepth ∧
    (t.params ≠ s.params → ∃ path baud d rest, s.inputs = .construct path baud d :: rest ∧
      t.params.devicePath = path ∧ t.params.baud = baud)
end

