-- ==== Sys2Proof/Laws/Bytes.lean ====
section
/-! SUPPORT. The byte-level functions: what `be16`, `hi8`, `lo8` and `sum8` are as numbers, and what the
header and checksum tests say. -/

namespace Sys2Proof.Machine

theorem toNat_be16 (hi lo : Byte) : (be16 hi lo).toNat = hi.toNat * 256 + lo.toNat := by
  have h1 := hi.isLt
  have h2 := lo.isLt
  simp only [be16, BitVec.toNat_ofNat]
  omega

theorem toNat_hi8 (v : Half) : (hi8 v).toNat = v.toNat / 256 := by
  have := v.isLt
  simp only [hi8, BitVec.toNat_ofNat]
  omega

theorem toNat_lo8 (v : Half) : (lo8 v).toNat = v.toNat % 256 := by
  simp only [lo8, BitVec.toNat_ofNat]
  omega

@[simp] theorem be16_hi8_lo8 (v : Half) : be16 (hi8 v) (lo8 v) = v :=
  BitVec.eq_of_toNat_eq (by rw [toNat_be16, toNat_hi8, toNat_lo8]; omega)

@[simp] theorem hi8_be16 (hi lo : Byte) : hi8 (be16 hi lo) = hi :=
  BitVec.eq_of_toNat_eq (by rw [toNat_hi8, toNat_be16]; have := lo.isLt; omega)

@[simp] theorem lo8_be16 (hi lo : Byte) : lo8 (be16 hi lo) = lo :=
  BitVec.eq_of_toNat_eq (by rw [toNat_lo8, toNat_be16]; have := lo.isLt; omega)

theorem toNat_sum8 (s : List Byte) : (sum8 s).toNat = (s.map BitVec.toNat).sum % 256 := by
  simp [sum8]

/-- Equality of a window sum with a byte, as numbers. -/
theorem sum8_eq_iff (s : List Byte) (b : Byte) : sum8 s = b ↔ (s.map BitVec.toNat).sum % 256 = b.toNat := by
  rw [← toNat_sum8]
  exact ⟨congrArg _, BitVec.eq_of_toNat_eq⟩

@[simp] theorem hdrOk_iff (b : Byte) : hdrOk b = true ↔ b = 0xFE := by
  simp [hdrOk, Config.hdr]

/-- The active window is bytes 3..8 (rule R63). -/
theorem slice_active (f : Frame) :
    slice f.toList Config.awinLo Config.awinHi = [f[3], f[4], f[5], f[6], f[7], f[8]] := by
  obtain ⟨⟨l⟩, h⟩ := f
  simp only [List.size_toArray] at h
  match l, h with
  | [_, _, _, _, _, _, _, _, _, _, _], _ => rfl

/-- The query window is the seven bytes that `QWIN_LO` selects (rules R67, R68). -/
theorem slice_query (w : QWinLo) (q : Response) :
    slice q.toList w.toNat (w.toNat + (Config.qwinLen - 1)) =
      match w with
      | .one => [q[1], q[2], q[3], q[4], q[5], q[6], q[7]]
      | .two => [q[2], q[3], q[4], q[5], q[6], q[7], q[8]] := by
  obtain ⟨⟨l⟩, h⟩ := q
  simp only [List.size_toArray] at h
  match l, h with
  | [_, _, _, _, _, _, _, _, _, _], _ => cases w <;> rfl

theorem csumOkActive_iff (f : Frame) : csumOkActive f = true ↔
    (f[3].toNat + f[4].toNat + f[5].toNat + f[6].toNat + f[7].toNat + f[8].toNat) % 256 = f[9].toNat := by
  simp only [csumOkActive, beq_iff_eq, slice_active, sum8_eq_iff, List.map_cons, List.map_nil, List.sum_cons,
    List.sum_nil]
  omega

theorem csumOkQuery_iff (w : QWinLo) (q : Response) : csumOkQuery w q = true ↔
    (match w with
      | .one => q[1].toNat + q[2].toNat + q[3].toNat + q[4].toNat + q[5].toNat + q[6].toNat + q[7].toNat
      | .two => q[2].toNat + q[3].toNat + q[4].toNat + q[5].toNat + q[6].toNat + q[7].toNat + q[8].toNat) % 256 =
      q[9].toNat := by
  simp only [csumOkQuery, beq_iff_eq, slice_query, sum8_eq_iff]
  cases w <;> simp only [List.map_cons, List.map_nil, List.sum_cons, List.sum_nil] <;> omega

end Sys2Proof.Machine
end

