-- ==== Sys2Proof/Laws/State.lean ====
section
/-! SUPPORT. One lemma for each field of State under each update of it, all true by rfl, so that no
proof unfolds a record update. -/

namespace Sys2Proof.Machine

variable (s : State)

@[simp] theorem State.setFill_rxbuf (v : BitVec 4) : (s.setFill v).rxbuf = s.rxbuf := rfl
@[simp] theorem State.setFill_fill (v : BitVec 4) : (s.setFill v).fill = v := rfl
@[simp] theorem State.setFill_live (v : BitVec 4) : (s.setFill v).live = s.live := rfl
@[simp] theorem State.setFill_qcap (v : BitVec 4) : (s.setFill v).qcap = s.qcap := rfl
@[simp] theorem State.setFill_rxq (v : BitVec 4) : (s.setFill v).rxq = s.rxq := rfl
@[simp] theorem State.setFill_tx (v : BitVec 4) : (s.setFill v).tx = s.tx := rfl
@[simp] theorem State.setFill_alarm (v : BitVec 4) : (s.setFill v).alarm = s.alarm := rfl
@[simp] theorem State.setFill_sensorMode (v : BitVec 4) : (s.setFill v).sensorMode = s.sensorMode := rfl
@[simp] theorem State.setFill_params (v : BitVec 4) : (s.setFill v).params = s.params := rfl
@[simp] theorem State.setFill_inputs (v : BitVec 4) : (s.setFill v).inputs = s.inputs := rfl
@[simp] theorem State.setFill_draws (v : BitVec 4) : (s.setFill v).draws = s.draws := rfl
@[simp] theorem State.setFill_freeCount (v : BitVec 4) : (s.setFill v).freeCount = s.freeCount := rfl
@[simp] theorem State.setFill_outcomes (v : BitVec 4) : (s.setFill v).outcomes = s.outcomes := rfl
@[simp] theorem State.setFill_unitResult (v : BitVec 4) : (s.setFill v).unitResult = s.unitResult := rfl

@[simp] theorem State.storeRx_rxbuf (i : Nat) (b : Byte) : (s.storeRx i b).rxbuf = s.rxbuf.setIfInBounds i b := rfl
@[simp] theorem State.storeRx_fill (i : Nat) (b : Byte) : (s.storeRx i b).fill = s.fill := rfl
@[simp] theorem State.storeRx_live (i : Nat) (b : Byte) : (s.storeRx i b).live = s.live := rfl
@[simp] theorem State.storeRx_qcap (i : Nat) (b : Byte) : (s.storeRx i b).qcap = s.qcap := rfl
@[simp] theorem State.storeRx_rxq (i : Nat) (b : Byte) : (s.storeRx i b).rxq = s.rxq := rfl
@[simp] theorem State.storeRx_tx (i : Nat) (b : Byte) : (s.storeRx i b).tx = s.tx := rfl
@[simp] theorem State.storeRx_alarm (i : Nat) (b : Byte) : (s.storeRx i b).alarm = s.alarm := rfl
@[simp] theorem State.storeRx_sensorMode (i : Nat) (b : Byte) : (s.storeRx i b).sensorMode = s.sensorMode := rfl
@[simp] theorem State.storeRx_params (i : Nat) (b : Byte) : (s.storeRx i b).params = s.params := rfl
@[simp] theorem State.storeRx_inputs (i : Nat) (b : Byte) : (s.storeRx i b).inputs = s.inputs := rfl
@[simp] theorem State.storeRx_draws (i : Nat) (b : Byte) : (s.storeRx i b).draws = s.draws := rfl
@[simp] theorem State.storeRx_freeCount (i : Nat) (b : Byte) : (s.storeRx i b).freeCount = s.freeCount := rfl
@[simp] theorem State.storeRx_outcomes (i : Nat) (b : Byte) : (s.storeRx i b).outcomes = s.outcomes := rfl
@[simp] theorem State.storeRx_unitResult (i : Nat) (b : Byte) : (s.storeRx i b).unitResult = s.unitResult := rfl

@[simp] theorem State.setRxbuf_rxbuf (v : Frame) : (s.setRxbuf v).rxbuf = v := rfl
@[simp] theorem State.setRxbuf_fill (v : Frame) : (s.setRxbuf v).fill = s.fill := rfl
@[simp] theorem State.setRxbuf_live (v : Frame) : (s.setRxbuf v).live = s.live := rfl
@[simp] theorem State.setRxbuf_qcap (v : Frame) : (s.setRxbuf v).qcap = s.qcap := rfl
@[simp] theorem State.setRxbuf_rxq (v : Frame) : (s.setRxbuf v).rxq = s.rxq := rfl
@[simp] theorem State.setRxbuf_tx (v : Frame) : (s.setRxbuf v).tx = s.tx := rfl
@[simp] theorem State.setRxbuf_alarm (v : Frame) : (s.setRxbuf v).alarm = s.alarm := rfl
@[simp] theorem State.setRxbuf_sensorMode (v : Frame) : (s.setRxbuf v).sensorMode = s.sensorMode := rfl
@[simp] theorem State.setRxbuf_params (v : Frame) : (s.setRxbuf v).params = s.params := rfl
@[simp] theorem State.setRxbuf_inputs (v : Frame) : (s.setRxbuf v).inputs = s.inputs := rfl
@[simp] theorem State.setRxbuf_draws (v : Frame) : (s.setRxbuf v).draws = s.draws := rfl
@[simp] theorem State.setRxbuf_freeCount (v : Frame) : (s.setRxbuf v).freeCount = s.freeCount := rfl
@[simp] theorem State.setRxbuf_outcomes (v : Frame) : (s.setRxbuf v).outcomes = s.outcomes := rfl
@[simp] theorem State.setRxbuf_unitResult (v : Frame) : (s.setRxbuf v).unitResult = s.unitResult := rfl

@[simp] theorem State.setLive_rxbuf (v : Bool) : (s.setLive v).rxbuf = s.rxbuf := rfl
@[simp] theorem State.setLive_fill (v : Bool) : (s.setLive v).fill = s.fill := rfl
@[simp] theorem State.setLive_live (v : Bool) : (s.setLive v).live = v := rfl
@[simp] theorem State.setLive_qcap (v : Bool) : (s.setLive v).qcap = s.qcap := rfl
@[simp] theorem State.setLive_rxq (v : Bool) : (s.setLive v).rxq = s.rxq := rfl
@[simp] theorem State.setLive_tx (v : Bool) : (s.setLive v).tx = s.tx := rfl
@[simp] theorem State.setLive_alarm (v : Bool) : (s.setLive v).alarm = s.alarm := rfl
@[simp] theorem State.setLive_sensorMode (v : Bool) : (s.setLive v).sensorMode = s.sensorMode := rfl
@[simp] theorem State.setLive_params (v : Bool) : (s.setLive v).params = s.params := rfl
@[simp] theorem State.setLive_inputs (v : Bool) : (s.setLive v).inputs = s.inputs := rfl
@[simp] theorem State.setLive_draws (v : Bool) : (s.setLive v).draws = s.draws := rfl
@[simp] theorem State.setLive_freeCount (v : Bool) : (s.setLive v).freeCount = s.freeCount := rfl
@[simp] theorem State.setLive_outcomes (v : Bool) : (s.setLive v).outcomes = s.outcomes := rfl
@[simp] theorem State.setLive_unitResult (v : Bool) : (s.setLive v).unitResult = s.unitResult := rfl

@[simp] theorem State.setQcap_rxbuf (v : Frame) : (s.setQcap v).rxbuf = s.rxbuf := rfl
@[simp] theorem State.setQcap_fill (v : Frame) : (s.setQcap v).fill = s.fill := rfl
@[simp] theorem State.setQcap_live (v : Frame) : (s.setQcap v).live = s.live := rfl
@[simp] theorem State.setQcap_qcap (v : Frame) : (s.setQcap v).qcap = v := rfl
@[simp] theorem State.setQcap_rxq (v : Frame) : (s.setQcap v).rxq = s.rxq := rfl
@[simp] theorem State.setQcap_tx (v : Frame) : (s.setQcap v).tx = s.tx := rfl
@[simp] theorem State.setQcap_alarm (v : Frame) : (s.setQcap v).alarm = s.alarm := rfl
@[simp] theorem State.setQcap_sensorMode (v : Frame) : (s.setQcap v).sensorMode = s.sensorMode := rfl
@[simp] theorem State.setQcap_params (v : Frame) : (s.setQcap v).params = s.params := rfl
@[simp] theorem State.setQcap_inputs (v : Frame) : (s.setQcap v).inputs = s.inputs := rfl
@[simp] theorem State.setQcap_draws (v : Frame) : (s.setQcap v).draws = s.draws := rfl
@[simp] theorem State.setQcap_freeCount (v : Frame) : (s.setQcap v).freeCount = s.freeCount := rfl
@[simp] theorem State.setQcap_outcomes (v : Frame) : (s.setQcap v).outcomes = s.outcomes := rfl
@[simp] theorem State.setQcap_unitResult (v : Frame) : (s.setQcap v).unitResult = s.unitResult := rfl

@[simp] theorem State.setRxq_rxbuf (q : List Byte) : (s.setRxq q).rxbuf = s.rxbuf := rfl
@[simp] theorem State.setRxq_fill (q : List Byte) : (s.setRxq q).fill = s.fill := rfl
@[simp] theorem State.setRxq_live (q : List Byte) : (s.setRxq q).live = s.live := rfl
@[simp] theorem State.setRxq_qcap (q : List Byte) : (s.setRxq q).qcap = s.qcap := rfl
@[simp] theorem State.setRxq_rxq (q : List Byte) : (s.setRxq q).rxq = q := rfl
@[simp] theorem State.setRxq_tx (q : List Byte) : (s.setRxq q).tx = s.tx := rfl
@[simp] theorem State.setRxq_alarm (q : List Byte) : (s.setRxq q).alarm = s.alarm := rfl
@[simp] theorem State.setRxq_sensorMode (q : List Byte) : (s.setRxq q).sensorMode = s.sensorMode := rfl
@[simp] theorem State.setRxq_params (q : List Byte) : (s.setRxq q).params = s.params := rfl
@[simp] theorem State.setRxq_inputs (q : List Byte) : (s.setRxq q).inputs = s.inputs := rfl
@[simp] theorem State.setRxq_draws (q : List Byte) : (s.setRxq q).draws = s.draws := rfl
@[simp] theorem State.setRxq_freeCount (q : List Byte) : (s.setRxq q).freeCount = s.freeCount := rfl
@[simp] theorem State.setRxq_outcomes (q : List Byte) : (s.setRxq q).outcomes = s.outcomes := rfl
@[simp] theorem State.setRxq_unitResult (q : List Byte) : (s.setRxq q).unitResult = s.unitResult := rfl

@[simp] theorem State.send_rxbuf (w : List Byte) : (s.send w).rxbuf = s.rxbuf := rfl
@[simp] theorem State.send_fill (w : List Byte) : (s.send w).fill = s.fill := rfl
@[simp] theorem State.send_live (w : List Byte) : (s.send w).live = s.live := rfl
@[simp] theorem State.send_qcap (w : List Byte) : (s.send w).qcap = s.qcap := rfl
@[simp] theorem State.send_rxq (w : List Byte) : (s.send w).rxq = s.rxq := rfl
@[simp] theorem State.send_tx (w : List Byte) : (s.send w).tx = s.tx ++ w := rfl
@[simp] theorem State.send_alarm (w : List Byte) : (s.send w).alarm = s.alarm := rfl
@[simp] theorem State.send_sensorMode (w : List Byte) : (s.send w).sensorMode = s.sensorMode := rfl
@[simp] theorem State.send_params (w : List Byte) : (s.send w).params = s.params := rfl
@[simp] theorem State.send_inputs (w : List Byte) : (s.send w).inputs = s.inputs := rfl
@[simp] theorem State.send_draws (w : List Byte) : (s.send w).draws = s.draws := rfl
@[simp] theorem State.send_freeCount (w : List Byte) : (s.send w).freeCount = s.freeCount := rfl
@[simp] theorem State.send_outcomes (w : List Byte) : (s.send w).outcomes = s.outcomes := rfl
@[simp] theorem State.send_unitResult (w : List Byte) : (s.send w).unitResult = s.unitResult := rfl

@[simp] theorem State.setAlarm_rxbuf (v : Bool) : (s.setAlarm v).rxbuf = s.rxbuf := rfl
@[simp] theorem State.setAlarm_fill (v : Bool) : (s.setAlarm v).fill = s.fill := rfl
@[simp] theorem State.setAlarm_live (v : Bool) : (s.setAlarm v).live = s.live := rfl
@[simp] theorem State.setAlarm_qcap (v : Bool) : (s.setAlarm v).qcap = s.qcap := rfl
@[simp] theorem State.setAlarm_rxq (v : Bool) : (s.setAlarm v).rxq = s.rxq := rfl
@[simp] theorem State.setAlarm_tx (v : Bool) : (s.setAlarm v).tx = s.tx := rfl
@[simp] theorem State.setAlarm_alarm (v : Bool) : (s.setAlarm v).alarm = v := rfl
@[simp] theorem State.setAlarm_sensorMode (v : Bool) : (s.setAlarm v).sensorMode = s.sensorMode := rfl
@[simp] theorem State.setAlarm_params (v : Bool) : (s.setAlarm v).params = s.params := rfl
@[simp] theorem State.setAlarm_inputs (v : Bool) : (s.setAlarm v).inputs = s.inputs := rfl
@[simp] theorem State.setAlarm_draws (v : Bool) : (s.setAlarm v).draws = s.draws := rfl
@[simp] theorem State.setAlarm_freeCount (v : Bool) : (s.setAlarm v).freeCount = s.freeCount := rfl
@[simp] theorem State.setAlarm_outcomes (v : Bool) : (s.setAlarm v).outcomes = s.outcomes := rfl
@[simp] theorem State.setAlarm_unitResult (v : Bool) : (s.setAlarm v).unitResult = s.unitResult := rfl

@[simp] theorem State.setSensorMode_rxbuf (m : SensorMode) : (s.setSensorMode m).rxbuf = s.rxbuf := rfl
@[simp] theorem State.setSensorMode_fill (m : SensorMode) : (s.setSensorMode m).fill = s.fill := rfl
@[simp] theorem State.setSensorMode_live (m : SensorMode) : (s.setSensorMode m).live = s.live := rfl
@[simp] theorem State.setSensorMode_qcap (m : SensorMode) : (s.setSensorMode m).qcap = s.qcap := rfl
@[simp] theorem State.setSensorMode_rxq (m : SensorMode) : (s.setSensorMode m).rxq = s.rxq := rfl
@[simp] theorem State.setSensorMode_tx (m : SensorMode) : (s.setSensorMode m).tx = s.tx := rfl
@[simp] theorem State.setSensorMode_alarm (m : SensorMode) : (s.setSensorMode m).alarm = s.alarm := rfl
@[simp] theorem State.setSensorMode_sensorMode (m : SensorMode) : (s.setSensorMode m).sensorMode = m := rfl
@[simp] theorem State.setSensorMode_params (m : SensorMode) : (s.setSensorMode m).params = s.params := rfl
@[simp] theorem State.setSensorMode_inputs (m : SensorMode) : (s.setSensorMode m).inputs = s.inputs := rfl
@[simp] theorem State.setSensorMode_draws (m : SensorMode) : (s.setSensorMode m).draws = s.draws := rfl
@[simp] theorem State.setSensorMode_freeCount (m : SensorMode) : (s.setSensorMode m).freeCount = s.freeCount := rfl
@[simp] theorem State.setSensorMode_outcomes (m : SensorMode) : (s.setSensorMode m).outcomes = s.outcomes := rfl
@[simp] theorem State.setSensorMode_unitResult (m : SensorMode) : (s.setSensorMode m).unitResult = s.unitResult := rfl

@[simp] theorem State.setChannel_rxbuf (path : String) (baud : Nat) : (s.setChannel path baud).rxbuf = s.rxbuf := rfl
@[simp] theorem State.setChannel_fill (path : String) (baud : Nat) : (s.setChannel path baud).fill = s.fill := rfl
@[simp] theorem State.setChannel_live (path : String) (baud : Nat) : (s.setChannel path baud).live = s.live := rfl
@[simp] theorem State.setChannel_qcap (path : String) (baud : Nat) : (s.setChannel path baud).qcap = s.qcap := rfl
@[simp] theorem State.setChannel_rxq (path : String) (baud : Nat) : (s.setChannel path baud).rxq = s.rxq := rfl
@[simp] theorem State.setChannel_tx (path : String) (baud : Nat) : (s.setChannel path baud).tx = s.tx := rfl
@[simp] theorem State.setChannel_alarm (path : String) (baud : Nat) : (s.setChannel path baud).alarm = s.alarm := rfl
@[simp] theorem State.setChannel_sensorMode (path : String) (baud : Nat) : (s.setChannel path baud).sensorMode = s.sensorMode := rfl
@[simp] theorem State.setChannel_params (path : String) (baud : Nat) : (s.setChannel path baud).params = { s.params with devicePath := path, baud := baud } := rfl
@[simp] theorem State.setChannel_inputs (path : String) (baud : Nat) : (s.setChannel path baud).inputs = s.inputs := rfl
@[simp] theorem State.setChannel_draws (path : String) (baud : Nat) : (s.setChannel path baud).draws = s.draws := rfl
@[simp] theorem State.setChannel_freeCount (path : String) (baud : Nat) : (s.setChannel path baud).freeCount = s.freeCount := rfl
@[simp] theorem State.setChannel_outcomes (path : String) (baud : Nat) : (s.setChannel path baud).outcomes = s.outcomes := rfl
@[simp] theorem State.setChannel_unitResult (path : String) (baud : Nat) : (s.setChannel path baud).unitResult = s.unitResult := rfl

@[simp] theorem State.setInputs_rxbuf (l : List Event) : (s.setInputs l).rxbuf = s.rxbuf := rfl
@[simp] theorem State.setInputs_fill (l : List Event) : (s.setInputs l).fill = s.fill := rfl
@[simp] theorem State.setInputs_live (l : List Event) : (s.setInputs l).live = s.live := rfl
@[simp] theorem State.setInputs_qcap (l : List Event) : (s.setInputs l).qcap = s.qcap := rfl
@[simp] theorem State.setInputs_rxq (l : List Event) : (s.setInputs l).rxq = s.rxq := rfl
@[simp] theorem State.setInputs_tx (l : List Event) : (s.setInputs l).tx = s.tx := rfl
@[simp] theorem State.setInputs_alarm (l : List Event) : (s.setInputs l).alarm = s.alarm := rfl
@[simp] theorem State.setInputs_sensorMode (l : List Event) : (s.setInputs l).sensorMode = s.sensorMode := rfl
@[simp] theorem State.setInputs_params (l : List Event) : (s.setInputs l).params = s.params := rfl
@[simp] theorem State.setInputs_inputs (l : List Event) : (s.setInputs l).inputs = l := rfl
@[simp] theorem State.setInputs_draws (l : List Event) : (s.setInputs l).draws = s.draws := rfl
@[simp] theorem State.setInputs_freeCount (l : List Event) : (s.setInputs l).freeCount = s.freeCount := rfl
@[simp] theorem State.setInputs_outcomes (l : List Event) : (s.setInputs l).outcomes = s.outcomes := rfl
@[simp] theorem State.setInputs_unitResult (l : List Event) : (s.setInputs l).unitResult = s.unitResult := rfl

@[simp] theorem State.setDraws_rxbuf (d : Draws) : (s.setDraws d).rxbuf = s.rxbuf := rfl
@[simp] theorem State.setDraws_fill (d : Draws) : (s.setDraws d).fill = s.fill := rfl
@[simp] theorem State.setDraws_live (d : Draws) : (s.setDraws d).live = s.live := rfl
@[simp] theorem State.setDraws_qcap (d : Draws) : (s.setDraws d).qcap = s.qcap := rfl
@[simp] theorem State.setDraws_rxq (d : Draws) : (s.setDraws d).rxq = s.rxq := rfl
@[simp] theorem State.setDraws_tx (d : Draws) : (s.setDraws d).tx = s.tx := rfl
@[simp] theorem State.setDraws_alarm (d : Draws) : (s.setDraws d).alarm = s.alarm := rfl
@[simp] theorem State.setDraws_sensorMode (d : Draws) : (s.setDraws d).sensorMode = s.sensorMode := rfl
@[simp] theorem State.setDraws_params (d : Draws) : (s.setDraws d).params = s.params := rfl
@[simp] theorem State.setDraws_inputs (d : Draws) : (s.setDraws d).inputs = s.inputs := rfl
@[simp] theorem State.setDraws_draws (d : Draws) : (s.setDraws d).draws = d := rfl
@[simp] theorem State.setDraws_freeCount (d : Draws) : (s.setDraws d).freeCount = s.freeCount := rfl
@[simp] theorem State.setDraws_outcomes (d : Draws) : (s.setDraws d).outcomes = s.outcomes := rfl
@[simp] theorem State.setDraws_unitResult (d : Draws) : (s.setDraws d).unitResult = s.unitResult := rfl

@[simp] theorem State.ret_rxbuf (r : Result) : (s.ret r).rxbuf = s.rxbuf := rfl
@[simp] theorem State.ret_fill (r : Result) : (s.ret r).fill = s.fill := rfl
@[simp] theorem State.ret_live (r : Result) : (s.ret r).live = s.live := rfl
@[simp] theorem State.ret_qcap (r : Result) : (s.ret r).qcap = s.qcap := rfl
@[simp] theorem State.ret_rxq (r : Result) : (s.ret r).rxq = s.rxq := rfl
@[simp] theorem State.ret_tx (r : Result) : (s.ret r).tx = s.tx := rfl
@[simp] theorem State.ret_alarm (r : Result) : (s.ret r).alarm = s.alarm := rfl
@[simp] theorem State.ret_sensorMode (r : Result) : (s.ret r).sensorMode = s.sensorMode := rfl
@[simp] theorem State.ret_params (r : Result) : (s.ret r).params = s.params := rfl
@[simp] theorem State.ret_inputs (r : Result) : (s.ret r).inputs = s.inputs := rfl
@[simp] theorem State.ret_draws (r : Result) : (s.ret r).draws = s.draws := rfl
@[simp] theorem State.ret_freeCount (r : Result) : (s.ret r).freeCount = s.freeCount := rfl
@[simp] theorem State.ret_outcomes (r : Result) : (s.ret r).outcomes = s.outcomes ++ [r] := rfl
@[simp] theorem State.ret_unitResult (r : Result) : (s.ret r).unitResult = s.unitResult := rfl

@[simp] theorem State.setUnitResult_rxbuf (r : Option Result) : (s.setUnitResult r).rxbuf = s.rxbuf := rfl
@[simp] theorem State.setUnitResult_fill (r : Option Result) : (s.setUnitResult r).fill = s.fill := rfl
@[simp] theorem State.setUnitResult_live (r : Option Result) : (s.setUnitResult r).live = s.live := rfl
@[simp] theorem State.setUnitResult_qcap (r : Option Result) : (s.setUnitResult r).qcap = s.qcap := rfl
@[simp] theorem State.setUnitResult_rxq (r : Option Result) : (s.setUnitResult r).rxq = s.rxq := rfl
@[simp] theorem State.setUnitResult_tx (r : Option Result) : (s.setUnitResult r).tx = s.tx := rfl
@[simp] theorem State.setUnitResult_alarm (r : Option Result) : (s.setUnitResult r).alarm = s.alarm := rfl
@[simp] theorem State.setUnitResult_sensorMode (r : Option Result) : (s.setUnitResult r).sensorMode = s.sensorMode := rfl
@[simp] theorem State.setUnitResult_params (r : Option Result) : (s.setUnitResult r).params = s.params := rfl
@[simp] theorem State.setUnitResult_inputs (r : Option Result) : (s.setUnitResult r).inputs = s.inputs := rfl
@[simp] theorem State.setUnitResult_draws (r : Option Result) : (s.setUnitResult r).draws = s.draws := rfl
@[simp] theorem State.setUnitResult_freeCount (r : Option Result) : (s.setUnitResult r).freeCount = s.freeCount := rfl
@[simp] theorem State.setUnitResult_outcomes (r : Option Result) : (s.setUnitResult r).outcomes = s.outcomes := rfl
@[simp] theorem State.setUnitResult_unitResult (r : Option Result) : (s.setUnitResult r).unitResult = r := rfl

@[simp] theorem State.countFree_rxbuf : (s.countFree).rxbuf = s.rxbuf := rfl
@[simp] theorem State.countFree_fill : (s.countFree).fill = s.fill := rfl
@[simp] theorem State.countFree_live : (s.countFree).live = s.live := rfl
@[simp] theorem State.countFree_qcap : (s.countFree).qcap = s.qcap := rfl
@[simp] theorem State.countFree_rxq : (s.countFree).rxq = s.rxq := rfl
@[simp] theorem State.countFree_tx : (s.countFree).tx = s.tx := rfl
@[simp] theorem State.countFree_alarm : (s.countFree).alarm = s.alarm := rfl
@[simp] theorem State.countFree_sensorMode : (s.countFree).sensorMode = s.sensorMode := rfl
@[simp] theorem State.countFree_params : (s.countFree).params = s.params := rfl
@[simp] theorem State.countFree_inputs : (s.countFree).inputs = s.inputs := rfl
@[simp] theorem State.countFree_draws : (s.countFree).draws = s.draws := rfl
@[simp] theorem State.countFree_freeCount : (s.countFree).freeCount = s.freeCount + 1 := rfl
@[simp] theorem State.countFree_outcomes : (s.countFree).outcomes = s.outcomes := rfl
@[simp] theorem State.countFree_unitResult : (s.countFree).unitResult = s.unitResult := rfl

@[simp] theorem State.freeQcap_rxbuf : (s.freeQcap).rxbuf = s.rxbuf := rfl
@[simp] theorem State.freeQcap_fill : (s.freeQcap).fill = s.fill := rfl
@[simp] theorem State.freeQcap_live : (s.freeQcap).live = s.live := rfl
@[simp] theorem State.freeQcap_qcap : (s.freeQcap).qcap = freeBytes s.freeCount := rfl
@[simp] theorem State.freeQcap_rxq : (s.freeQcap).rxq = s.rxq := rfl
@[simp] theorem State.freeQcap_tx : (s.freeQcap).tx = s.tx := rfl
@[simp] theorem State.freeQcap_alarm : (s.freeQcap).alarm = s.alarm := rfl
@[simp] theorem State.freeQcap_sensorMode : (s.freeQcap).sensorMode = s.sensorMode := rfl
@[simp] theorem State.freeQcap_params : (s.freeQcap).params = s.params := rfl
@[simp] theorem State.freeQcap_inputs : (s.freeQcap).inputs = s.inputs := rfl
@[simp] theorem State.freeQcap_draws : (s.freeQcap).draws = s.draws := rfl
@[simp] theorem State.freeQcap_freeCount : (s.freeQcap).freeCount = s.freeCount + 1 := rfl
@[simp] theorem State.freeQcap_outcomes : (s.freeQcap).outcomes = s.outcomes := rfl
@[simp] theorem State.freeQcap_unitResult : (s.freeQcap).unitResult = s.unitResult := rfl

@[simp] theorem State.freeRxbuf_rxbuf : (s.freeRxbuf).rxbuf = freeBytes s.freeCount := rfl
@[simp] theorem State.freeRxbuf_fill : (s.freeRxbuf).fill = s.fill := rfl
@[simp] theorem State.freeRxbuf_live : (s.freeRxbuf).live = s.live := rfl
@[simp] theorem State.freeRxbuf_qcap : (s.freeRxbuf).qcap = s.qcap := rfl
@[simp] theorem State.freeRxbuf_rxq : (s.freeRxbuf).rxq = s.rxq := rfl
@[simp] theorem State.freeRxbuf_tx : (s.freeRxbuf).tx = s.tx := rfl
@[simp] theorem State.freeRxbuf_alarm : (s.freeRxbuf).alarm = s.alarm := rfl
@[simp] theorem State.freeRxbuf_sensorMode : (s.freeRxbuf).sensorMode = s.sensorMode := rfl
@[simp] theorem State.freeRxbuf_params : (s.freeRxbuf).params = s.params := rfl
@[simp] theorem State.freeRxbuf_inputs : (s.freeRxbuf).inputs = s.inputs := rfl
@[simp] theorem State.freeRxbuf_draws : (s.freeRxbuf).draws = s.draws := rfl
@[simp] theorem State.freeRxbuf_freeCount : (s.freeRxbuf).freeCount = s.freeCount + 1 := rfl
@[simp] theorem State.freeRxbuf_outcomes : (s.freeRxbuf).outcomes = s.outcomes := rfl
@[simp] theorem State.freeRxbuf_unitResult : (s.freeRxbuf).unitResult = s.unitResult := rfl

@[simp] theorem State.begin_rxbuf (rest : List Event) (d : Draws) : (s.begin rest d).rxbuf = s.rxbuf := rfl
@[simp] theorem State.begin_fill (rest : List Event) (d : Draws) : (s.begin rest d).fill = s.fill := rfl
@[simp] theorem State.begin_live (rest : List Event) (d : Draws) : (s.begin rest d).live = s.live := rfl
@[simp] theorem State.begin_qcap (rest : List Event) (d : Draws) : (s.begin rest d).qcap = freeBytes s.freeCount := rfl
@[simp] theorem State.begin_rxq (rest : List Event) (d : Draws) : (s.begin rest d).rxq = s.rxq := rfl
@[simp] theorem State.begin_tx (rest : List Event) (d : Draws) : (s.begin rest d).tx = s.tx := rfl
@[simp] theorem State.begin_alarm (rest : List Event) (d : Draws) : (s.begin rest d).alarm = s.alarm := rfl
@[simp] theorem State.begin_sensorMode (rest : List Event) (d : Draws) : (s.begin rest d).sensorMode = s.sensorMode := rfl
@[simp] theorem State.begin_params (rest : List Event) (d : Draws) : (s.begin rest d).params = s.params := rfl
@[simp] theorem State.begin_inputs (rest : List Event) (d : Draws) : (s.begin rest d).inputs = rest := rfl
@[simp] theorem State.begin_draws (rest : List Event) (d : Draws) : (s.begin rest d).draws = d := rfl
@[simp] theorem State.begin_freeCount (rest : List Event) (d : Draws) : (s.begin rest d).freeCount = s.freeCount + 1 := rfl
@[simp] theorem State.begin_outcomes (rest : List Event) (d : Draws) : (s.begin rest d).outcomes = s.outcomes := rfl
@[simp] theorem State.begin_unitResult (rest : List Event) (d : Draws) : (s.begin rest d).unitResult = s.unitResult := rfl

end Sys2Proof.Machine
end

