-- ==== Sys2Proof/Laws/Ops.lean ====
section
/-! SUPPORT. What the shared operations can do, said once for each: acceptance, the primitives and the
environment's actions. -/

namespace Sys2Proof.Machine

/-- An accepted operation ends in the state its pseudocode leaves. -/
theorem accept_of_ready {body : State → State} {s : State} (h : s.ready) : accept body s = .next (body s) := by
  simp [accept, h.1, h.2]

/-- An operation answers a next state only from a ready state, and then the one its pseudocode leaves. -/
theorem accept_eq_next {body : State → State} {s t : State} :
    accept body s = .next t ↔ s.ready ∧ body s = t := by
  unfold accept State.ready
  split
  · simp_all
  · split <;> simp_all

theorem accept_of_not_live {body : State → State} {s : State} (h : s.live = false) :
    accept body s = .fault .notLive := by
  simp [accept, h]

theorem accept_of_fill {body : State → State} {s : State} (h : s.live = true) (hf : 10 < s.fill.toNat) :
    accept body s = .refused .fillOutOfRange := by
  simp [accept, h, hf]

@[simp] theorem orIoError_ok {α : Type} (a : α) (s : State) (k : α → State → State) :
    orIoError (.ok a s) k = k a s := rfl

@[simp] theorem orIoError_failed {α : Type} (s : State) (k : α → State → State) :
    orIoError (.failed s) k = s.ret .ioError := rfl

/-- `RxAvail` answers the length of `RXQ` or fails, and changes nothing (rules R31, R36). -/
theorem rxAvail_cases (s : State) : rxAvail s = .ok s.rxq.length s ∨ rxAvail s = .failed s := by
  unfold rxAvail
  split
  · exact .inr rfl
  · exact .inl rfl

/-- `RxPop` answers the head byte, or fails having removed at most that byte (rules R32, R36). -/
theorem rxPop_cases (s : State) :
    (∃ b q, s.rxq = b :: q ∧ rxPop s = .ok b (s.setRxq q)) ∨
    ∃ n ≤ 1, rxPop s = .failed (s.setRxq (s.rxq.drop n)) := by
  unfold rxPop
  split
  · exact .inr ⟨_, Nat.min_le_right _ _, rfl⟩
  · split
    · exact .inl ⟨_, _, ‹_›, rfl⟩
    · exact .inr ⟨0, by omega, rfl⟩

/-- `RxRead(n)` answers the first `n` bytes, or fails having removed at most them (rules R33, R36). -/
theorem rxRead_cases (n : Nat) (s : State) :
    rxRead n s = .ok (s.rxq.take n) (s.setRxq (s.rxq.drop n)) ∨
    ∃ k ≤ n, rxRead n s = .failed (s.setRxq (s.rxq.drop k)) := by
  unfold rxRead
  split
  · exact .inr ⟨_, Nat.min_le_right _ _, rfl⟩
  · exact .inl rfl

/-- `RxFlush` empties `RXQ`, or fails having discarded a leading part of it (rules R34, R36). -/
theorem rxFlush_cases (s : State) :
    rxFlush s = .ok () (s.setRxq []) ∨ ∃ k, rxFlush s = .failed (s.setRxq (s.rxq.drop k)) := by
  unfold rxFlush
  split
  · exact .inr ⟨_, rfl⟩
  · exact .inl rfl

/-- `TxWrite(w)` sends `w`, or fails having sent a leading part of it (rules R35, R36). -/
theorem txWrite_cases (w : List Byte) (s : State) :
    txWrite w s = .ok () (s.send w) ∨ ∃ k, txWrite w s = .failed (s.send (w.take k)) := by
  unfold txWrite
  split
  · exact .inr ⟨_, rfl⟩
  · exact .inl rfl

/-- Marks keep a part of the queue, in order. -/
theorem keepMarked_sublist : ∀ (m : List Bool) (q : List Byte), (keepMarked m q).Sublist q
  | [], q => .refl q
  | _ :: _, [] => .slnil
  | true :: m, b :: q => (keepMarked_sublist m q).cons_cons b
  | false :: m, b :: q => (keepMarked_sublist m q).cons b

/-- What one action of the environment can do: it changes only `RXQ`, `ALARM` and `SENSOR_MODE`, and leaves
`RXQ` within its capacity if it was (rules R30, R37). -/
theorem act_spec (a : EnvAction) (s : State) :
    ∃ q v m, a.act s = { s with rxq := q, alarm := v, sensorMode := m } ∧
      (s.rxqFits → q.length ≤ s.params.rxDepth) := by
  cases a with
  | rxAppend bs => exact ⟨_, _, _, rfl, fun h => by simp [State.rxqFits] at *; omega⟩
  | rxDrop keep => exact ⟨_, _, _, rfl, (keepMarked_sublist keep s.rxq).length_le.trans⟩
  | setAlarm v => exact ⟨_, _, _, rfl, id⟩
  | setSensorMode m => exact ⟨_, _, _, rfl, id⟩

/-- What the environment can do during a wait: as `act_spec`, for any number of actions. -/
theorem actAll_spec (l : List EnvAction) (s : State) :
    ∃ q v m, actAll l s = { s with rxq := q, alarm := v, sensorMode := m } ∧
      (s.rxqFits → q.length ≤ s.params.rxDepth) := by
  induction l generalizing s with
  | nil => exact ⟨_, _, _, rfl, id⟩
  | cons a l ih =>
    obtain ⟨q, v, m, hs, hq⟩ := act_spec a s
    obtain ⟨q', v', m', hs', hq'⟩ := ih (a.act s)
    refine ⟨q', v', m', ?_, fun h => ?_⟩
    · rw [actAll, hs', hs]
    · rw [hs] at hq'
      exact hq' (hq h)

/-- What each instruction does once it is accepted. -/
def bodyOf : Instr → State → State
  | .setact => modeCommand cmdActiveBytes
  | .setqry => modeCommand cmdQmodeBytes
  | .stopact => modeCommand cmdQmodeBytes
  | .poll => pollBody
  | .query => queryBody
  | .reserved000 => rejectBody
  | .reserved101 => rejectBody
  | .reserved110 => rejectBody
  | .reserved111 => rejectBody
  | .cmdActive => serializeAlone cmdActiveBytes
  | .cmdQmode => serializeAlone cmdQmodeBytes
  | .cmdQreq => serializeAlone cmdQreqBytes
  | .activeFrame hdr status byte2 co2 ch2o tvoc csum byte10 =>
    validateActiveAlone (activeLayout hdr status byte2 co2 ch2o tvoc csum byte10)
  | .queryResponse hdr byte1 byte2 byte3 byte4 tvoc raw2 csum _ =>
    validateQueryAlone (responseLayout hdr byte1 byte2 byte3 byte4 tvoc raw2 csum)

/-- Every instruction is an acceptance followed by its body. -/
theorem exec_eq_accept (i : Instr) (s : State) : exec i s = accept (bodyOf i) s := by
  cases i <;> rfl

/-- Repetitions add up. -/
theorem execTimes_add (i : Instr) (b : Nat) {t : State} : ∀ (a : Nat) (s : State),
    execTimes i a s = .next t → execTimes i (a + b) s = execTimes i b t
  | 0, s, h => by
    simp only [execTimes, Host.Outcome.next.injEq] at h
    rw [h, Nat.zero_add]
  | a + 1, s, h => by
    rw [Nat.add_right_comm]
    simp only [execTimes] at h ⊢
    split at h
    · exact execTimes_add i b a _ h
    · cases h
    · cases h

/-- One repetition more is one more instruction at the end. -/
theorem execTimes_succ {i : Instr} {a : Nat} {s t : State} (h : execTimes i a s = .next t) :
    execTimes i (a + 1) s = exec i t := by
  rw [execTimes_add i 1 a s h]
  simp only [execTimes]
  split <;> simp_all

/-- What one step can do, by its input (rules R37, R129, R142). -/
theorem step_cases {s t : State} (h : step s = .next t) :
    (s.inputs = [] ∧ t = s) ∨
    (∃ a rest, s.inputs = .env a :: rest ∧ t = a.act (s.setInputs rest)) ∨
    (∃ path baud d rest, s.inputs = .construct path baud d :: rest ∧ t = construct path baud (s.begin rest d)) ∨
    ∃ p w d rest i, s.inputs = .request p w d :: rest ∧ decodeOn p w = .ok i ∧ exec i (s.begin rest d) = .next t := by
  unfold step at h
  split at h
  · cases h; exact .inl ⟨‹_›, rfl⟩
  · cases h; exact .inr (.inl ⟨_, _, ‹_›, rfl⟩)
  · cases h; exact .inr (.inr (.inl ⟨_, _, _, _, ‹_›, rfl⟩))
  · split at h
    · cases h
    · exact .inr (.inr (.inr ⟨_, _, _, _, _, ‹_›, ‹_›, h⟩))

end Sys2Proof.Machine
end

