-- ==== Sys2Proof/Laws/PerInstr.lean ====
section
/-! SUPPORT. What holds of each instruction as syntax, one lemma for each constructor. -/

namespace Sys2Proof.Laws.WordLength

/-- The word of an instruction has the length of its interface: one byte for an op code, 9 for a command,
11 for an active frame, 10 or 11 for a query response (rules R46, R51, R54, R101). -/
def Statement (i : Instr) : Prop :=
  match i.port with
  | .host => (encode i).length = 1
  | .serializer => (encode i).length = Config.cmdLen
  | .activeFrame => (encode i).length = Config.frameLen
  | .queryFrame => (encode i).length = Config.qMin ∨ (encode i).length = Config.frameLen

theorem setact : Statement .setact := rfl
theorem setqry : Statement .setqry := rfl
theorem stopact : Statement .stopact := rfl
theorem poll : Statement .poll := rfl
theorem query : Statement .query := rfl
theorem reserved000 : Statement .reserved000 := rfl
theorem reserved101 : Statement .reserved101 := rfl
theorem reserved110 : Statement .reserved110 := rfl
theorem reserved111 : Statement .reserved111 := rfl
theorem cmdActive : Statement .cmdActive := rfl
theorem cmdQmode : Statement .cmdQmode := rfl
theorem cmdQreq : Statement .cmdQreq := rfl
theorem activeFrame (hdr status byte2 : Byte) (co2 ch2o tvoc : Half) (csum byte10 : Byte) :
    Statement (.activeFrame hdr status byte2 co2 ch2o tvoc csum byte10) := rfl
theorem queryResponse (hdr byte1 byte2 byte3 byte4 : Byte) (tvoc raw2 : Half) (csum : Byte) (byte10 : Option Byte) :
    Statement (.queryResponse hdr byte1 byte2 byte3 byte4 tvoc raw2 csum byte10) := by
  cases byte10 with
  | none => exact .inl rfl
  | some b => exact .inr rfl

end Sys2Proof.Laws.WordLength
end

