-- ==== Sys2Proof/Laws/Poll.lean ====
section
/-! SUPPORT. What the steps of `POLL` do, said once for each. -/

namespace Sys2Proof.Machine

/-- A header is stored at index 0 with `FILL` reset (rule R79). -/
@[simp] theorem storeWithResync_hdr (s : State) :
    storeWithResync 0xFE s = (s.setFill 0).storeRx 0 0xFE := by
  rfl

/-- Any other byte is stored at `FILL` (rule R79). -/
theorem storeWithResync_ne {b : Byte} (h : b ≠ 0xFE) (s : State) :
    storeWithResync b s = s.storeRx s.fill.toNat b := by
  have h' : ¬ b = Config.hdr := h
  simp only [storeWithResync, if_neg h']

/-- `FILL` counts on by one from a legal value (rule R80). -/
theorem toNat_fill_succ {v : BitVec 4} (h : v.toNat ≤ 10) : (v + 1).toNat = v.toNat + 1 := by
  rw [BitVec.toNat_add]
  simp
  omega

/-- Whether or not a header came, the byte is stored at one index and `FILL` is that index plus one
(rules R79, R80). -/
theorem advance_storeWithResync {b : Byte} {s : State} (h : s.fill.toNat ≤ 10) :
    ∃ i ≤ 10, i = (if b = 0xFE then 0 else s.fill.toNat) ∧
      ∃ v : BitVec 4, v.toNat = i + 1 ∧ advance (storeWithResync b s) = (s.storeRx i b).setFill v := by
  by_cases hb : b = 0xFE
  · subst hb
    exact ⟨0, by omega, rfl, 1, rfl, by rw [storeWithResync_hdr]; rfl⟩
  · exact ⟨s.fill.toNat, h, (if_neg hb).symm, s.fill + 1, toNat_fill_succ h, by rw [storeWithResync_ne hb]; rfl⟩

/-- What a completion can do (rules R81 to R84): `FILL` is 0, a leading part of `RXQ` may be flushed, and one
outcome is returned. -/
theorem completeFrame_cases (s : State) :
    ∃ q r, completeFrame s = ((s.setFill 0).setRxq q).ret r ∧ (∃ n, q = s.rxq.drop n) ∧
      (r = .checksumError ∨ r = .ioError ∨ ∃ x, r = .readingActive x) := by
  unfold completeFrame
  simp only
  split
  · exact ⟨s.rxq, .checksumError, rfl, ⟨0, rfl⟩, .inl rfl⟩
  · rcases rxFlush_cases (s.setFill 0) with h | ⟨k, h⟩ <;> rw [h]
    · exact ⟨[], _, rfl, ⟨s.rxq.length, by simp⟩, .inr (.inr ⟨_, rfl⟩)⟩
    · exact ⟨s.rxq.drop k, .ioError, rfl, ⟨k, rfl⟩, .inr (.inl rfl)⟩

/-- What `POLL` can do with the byte it consumed (rules R79 to R85). -/
theorem takeByte_cases (b : Byte) {s : State} (h : s.fill.toNat ≤ 10) :
    ∃ i v q r, takeByte b s = (((s.storeRx i b).setFill v).setRxq q).ret r ∧ (∃ n, q = s.rxq.drop n) ∧
      i = (if b = 0xFE then 0 else s.fill.toNat) ∧
      ((v.toNat = i + 1 ∧ v.toNat ≤ 10 ∧ r = .noData) ∨
        (v = 0 ∧ i = 10 ∧ (r = .checksumError ∨ r = .ioError ∨ ∃ x, r = .readingActive x))) := by
  obtain ⟨i, hi, hb, v, hv, he⟩ := advance_storeWithResync (b := b) h
  unfold takeByte
  simp only [he, State.setFill_fill]
  split
  · rename_i hle
    exact ⟨i, v, s.rxq, .noData, rfl, ⟨0, rfl⟩, hb, .inl ⟨hv, hle, rfl⟩⟩
  · rename_i hle
    obtain ⟨q, r, hc, hq, hr⟩ := completeFrame_cases ((s.storeRx i b).setFill v)
    exact ⟨i, 0, q, r, by rw [hc]; rfl, hq, hb, .inr ⟨rfl, by omega, hr⟩⟩

/-- What `POLL` can do (rule R78): nothing but lose the head byte, or take it. -/
theorem pollBody_cases (s : State) :
    (∃ n r, pollBody s = (s.setRxq (s.rxq.drop n)).ret r ∧ (r = .noData ∨ r = .ioError)) ∨
    ∃ b q, s.rxq = b :: q ∧ pollBody s = takeByte b (s.setRxq q) := by
  unfold pollBody
  rcases rxAvail_cases s with h | h <;> rw [h]
  · simp only [orIoError_ok]
    split
    · exact .inl ⟨0, .noData, rfl, .inl rfl⟩
    · rcases rxPop_cases s with ⟨b, q, hq, h⟩ | ⟨n, -, h⟩ <;> rw [h]
      · exact .inr ⟨b, q, hq, rfl⟩
      · exact .inl ⟨n, .ioError, rfl, .inr rfl⟩
  · exact .inl ⟨0, .ioError, rfl, .inr rfl⟩

/-- With a byte available and no failure, `POLL` takes the head byte (rules R77, R78). -/
theorem pollBody_of_byte {s : State} {b : Byte} {q : List Byte} (ha : s.draws.rxAvailFails = false)
    (hp : s.draws.rxPopFails = none) (hq : s.rxq = b :: q) : pollBody s = takeByte b (s.setRxq q) := by
  simp [pollBody, rxAvail, rxPop, ha, hp, hq]

end Sys2Proof.Machine
end

