-- ==== Sys2Proof/Laws/Query.lean ====
section
/-! SUPPORT. What the steps of `QUERY` do, said once for each. -/

namespace Sys2Proof.Machine

/-- What the capture can do (rules R98, R107). -/
theorem captureBytes_cases (n : Nat) (s : State) :
    captureBytes n s = .ok () ((s.setRxq (s.rxq.drop n)).setQcap (storeFrom s.qcap 0 (s.rxq.take n))) ∨
    ∃ k ≤ n, captureBytes n s = .failed (s.setRxq (s.rxq.drop k)).freeQcap := by
  unfold captureBytes
  rcases rxRead_cases n s with h | ⟨k, hk, h⟩ <;> rw [h]
  · exact .inl rfl
  · exact .inr ⟨k, hk, rfl⟩

/-- The outcome of a capture is `NoResponse`, `ChecksumError` or a query reading (rules R100, R102). -/
theorem captureOutcome_cases (n : Nat) (s : State) :
    captureOutcome n s = .noResponse ∨ captureOutcome n s = .checksumError ∨
      ∃ x, captureOutcome n s = .readingQuery x := by
  unfold captureOutcome queryAnswer
  split
  · exact .inl rfl
  · split
    · exact .inr (.inl rfl)
    · exact .inr (.inr ⟨_, rfl⟩)

/-- Ten captured bytes, or more, are what the validator and decoder read, whatever `QCAP` held (rules R98, R101,
R104). -/
theorem capturedResponse_storeFrom (v : Frame) (b0 b1 b2 b3 b4 b5 b6 b7 b8 b9 : Byte) (more : List Byte)
    (h : more.length ≤ 1) :
    capturedResponse (storeFrom v 0 ([b0, b1, b2, b3, b4, b5, b6, b7, b8, b9] ++ more)) =
      #v[b0, b1, b2, b3, b4, b5, b6, b7, b8, b9] := by
  match more, h with
  | [], _ => simp [storeFrom, capturedResponse]
  | [_], _ => simp [storeFrom, capturedResponse]

/-- What the part of `QUERY` after the wait can do (rules R98 to R102, R107): a leading part of `RXQ` is read,
`QCAP` is written, and one outcome is returned. -/
theorem readResponse_cases (s : State) :
    ∃ q c f r, readResponse s = { s with rxq := q, qcap := c, freeCount := f, outcomes := s.outcomes ++ [r] } ∧
      (∃ n, q = s.rxq.drop n) ∧ mayReturn .query r = true := by
  unfold readResponse
  rcases rxAvail_cases s with h | h <;> rw [h]
  · simp only [orIoError_ok]
    split
    · exact ⟨_, _, _, _, rfl, ⟨0, rfl⟩, rfl⟩
    · rcases captureBytes_cases (min s.rxq.length Config.frameLen) s with h | ⟨k, -, h⟩ <;> rw [h]
      · refine ⟨_, _, _, _, rfl, ⟨_, rfl⟩, ?_⟩
        rcases captureOutcome_cases (min s.rxq.length Config.frameLen)
          ((s.setRxq (s.rxq.drop (min s.rxq.length Config.frameLen))).setQcap
            (storeFrom s.qcap 0 (s.rxq.take (min s.rxq.length Config.frameLen)))) with h | h | ⟨x, h⟩ <;>
          rw [h] <;> rfl
      · exact ⟨_, _, _, _, rfl, ⟨k, rfl⟩, rfl⟩
  · exact ⟨_, _, _, _, rfl, ⟨0, rfl⟩, rfl⟩

/-- What `QUERY` can do (rules R97, R107, R108): it changes only `RXQ`, `QCAP` and the transmit channel, what
the environment changes during the wait, and returns one outcome. -/
theorem queryBody_cases (s : State) :
    ∃ q c f w v m r, queryBody s =
        { s with rxq := q, qcap := c, freeCount := f, tx := s.tx ++ w, alarm := v, sensorMode := m, outcomes := s.outcomes ++ [r] } ∧
      (∃ n, w = cmdQreqBytes.take n) ∧ mayReturn .query r = true ∧ (s.rxqFits → q.length ≤ s.params.rxDepth) := by
  unfold queryBody
  rcases rxFlush_cases s with h | ⟨k, h⟩ <;> rw [h]
  · simp only [orIoError_ok, sendCmd]
    rcases txWrite_cases cmdQreqBytes (s.setRxq []) with h | ⟨k, h⟩ <;> rw [h]
    · simp only [orIoError_ok, wait]
      obtain ⟨q, v, m, hw, hq⟩ := actAll_spec (((s.setRxq []).send cmdQreqBytes).draws.duringWait) ((s.setRxq []).send cmdQreqBytes)
      rw [hw]
      obtain ⟨q', c, f, r, hr, ⟨n, hn⟩, hm⟩ := readResponse_cases
        { (s.setRxq []).send cmdQreqBytes with rxq := q, alarm := v, sensorMode := m }
      rw [hr]
      refine ⟨q', c, f, cmdQreqBytes, v, m, r, rfl, ⟨9, rfl⟩, hm, fun _ => ?_⟩
      have hl := hq (Nat.zero_le _)
      rw [hn]
      exact (List.drop_sublist _ _).length_le.trans hl
    · exact ⟨_, _, _, _, _, _, _, rfl, ⟨k, rfl⟩, rfl, fun _ => Nat.zero_le _⟩
  · refine ⟨_, _, _, [], _, _, _, by rw [List.append_nil]; rfl, ⟨0, rfl⟩, rfl, fun h => ?_⟩
    exact (List.drop_sublist _ _).length_le.trans h

end Sys2Proof.Machine
end

