-- ==== Sys2Proof/Tests/Slice0.lean ====
section
/-! SUPPORT. Small tests of the model, their expected values taken from the spec's encodings and from
95_test_vectors.md (the name of the vector stands in each docstring), and for every obligation with
hypotheses a witness that meets them. -/

namespace Sys2Proof.Tests

open Sys2Proof Sys2Proof.Machine

/-! ## Helpers -/

/-- Frame A of 95_test_vectors.md. -/
def frameA : Frame := #v[0xFE, 0x01, 0x00, 0x02, 0x11, 0x00, 0x00, 0x01, 0xE8, 0xFC, 0x00]

/-- Frame E of 95_test_vectors.md: a wrong checksum byte. -/
def frameE : Frame := #v[0xFE, 0x01, 0x00, 0x02, 0x11, 0x00, 0x00, 0x01, 0xE8, 0xFD, 0x00]

/-- Q1 of 95_test_vectors.md. -/
def q1 : List Byte := [0xFE, 0x00, 0x00, 0x00, 0x00, 0x01, 0xF4, 0x00, 0x64, 0x59, 0x00]

/-- The response bytes 0..9 of Q1. -/
def q1Response : Response := #v[0xFE, 0x00, 0x00, 0x00, 0x00, 0x01, 0xF4, 0x00, 0x64, 0x59]

/-- Vector QV3, valid with either window. -/
def qv3 : Response := #v[0xFE, 0x00, 0x00, 0x00, 0x00, 0x00, 0xFE, 0x00, 0x00, 0xFE]

/-- A live block with that fill index, buffer and receive channel. -/
def at' (v : BitVec 4) (b : Frame) (q : List Byte) : State := { State.reset with fill := v, rxbuf := b, rxq := q }

/-- A live block with these draws. -/
def withDraws (d : Draws) (s : State) : State := { s with draws := d }

/-- A live block in whose wait these bytes arrive. -/
def waiting (w : QWinLo) (bs : List Byte) : State :=
  { State.reset with params := { Params.reset with qwinLo := w }, draws := { Draws.quiet with duringWait := [.rxAppend bs] } }

/-- The next state of an instruction, if it answers one. -/
def run (i : Instr) (s : State) : Option State :=
  match exec i s with
  | .next t => some t
  | .fault _ => none
  | .refused _ => none

/-- What a test looks at after an instruction: outcomes, fill index, receive channel and bytes sent. -/
def seen (o : Option State) : Option (List Result × Nat × List Byte × List Byte) :=
  o.map fun t => (t.outcomes, t.fill.toNat, t.rxq, t.tx)

/-! ## WellFormed -/

theorem test_active_frame_with_header_is_well_formed :
    (Instr.activeFrame 0xFE 1 0 529 0 488 0xFC 0).wellFormed = true := by decide
theorem test_active_frame_without_header_is_refused :
    (Instr.activeFrame 0x00 1 0 529 0 488 0xFC 0).wellFormed = false := by decide
theorem test_query_response_with_header_is_well_formed :
    (Instr.queryResponse 0xFE 0 0 0 0 500 100 0x59 none).wellFormed = true := by decide
theorem test_query_response_without_header_is_refused :
    (Instr.queryResponse 0xFF 0 0 0 0 500 100 0x59 none).wellFormed = false := by decide

/-! ## Decoding: the words written out from rules R46, R47, R53 and R55 -/

theorem test_decode_op_codes :
    [0b000, 0b001, 0b010, 0b011, 0b100, 0b101, 0b110, 0b111].map (decodeTableWord 3) =
      [some .reserved000, some .setact, some .setqry, some .poll, some .query, some .reserved101,
        some .reserved110, some .reserved111] := by decide
/-- `STOPACT` has `SETQRY`'s word (rule R94). -/
theorem test_stopact_word : encode .stopact = [0b010] ∧ decodeOn .host [0b010] = .ok Instr.stopact.core := by decide
theorem test_decode_cmd_active : decodeTableWord 72 0xFE00784000000000B8 = some .cmdActive := by decide
theorem test_decode_cmd_qmode : decodeTableWord 72 0xFE00784100000000B9 = some .cmdQmode := by decide
theorem test_decode_cmd_qreq : decodeTableWord 72 0xFE0086000000000086 = some .cmdQreq := by decide
theorem test_decode_active_frame :
    decodeTableWord 88 0xFE01000211000001E8FC00 = some (.activeFrame 0xFE 0x01 0x00 529 0 488 0xFC 0x00) := by decide
/-- Every byte of a frame goes to the field of rule R46. -/
theorem test_decode_active_frame_fields :
    decodeTableWord 88 0x0102030405060708090A0B =
      some (.activeFrame 0x01 0x02 0x03 0x0405 0x0607 0x0809 0x0A 0x0B) := by decide
theorem test_decode_query_response :
    decodeOn .queryFrame q1 = .ok (.queryResponse 0xFE 0 0 0 0 500 100 0x59 (some 0)) ∧
    decodeTableWord 80 0xFE0000000001F4006459 = some (.queryResponse 0xFE 0 0 0 0 500 100 0x59 none) := by decide
/-- Every byte of a response goes to the field of rule R47. -/
theorem test_decode_query_response_fields :
    decodeOn .queryFrame [0x01, 0x02, 0x03, 0x04, 0x05, 0x06, 0x07, 0x08, 0x09, 0x0A, 0x0B] =
      .ok (.queryResponse 0x01 0x02 0x03 0x04 0x05 0x0607 0x0809 0x0A (some 0x0B)) := by decide
theorem test_decode_rejects_by_name :
    decodeOn .host [8] = .error (.opCodeTooWide 8) ∧ decodeOn .host [] = .error (.wrongLength 0) ∧
    decodeOn .serializer [0xFE, 0x00, 0x78, 0x42, 0, 0, 0, 0, 0xBA] = .error .noSuchCommand ∧
    decodeOn .serializer [0xFE] = .error (.wrongLength 1) ∧ decodeOn .activeFrame [0xFE] = .error (.wrongLength 1) ∧
    decodeOn .queryFrame [0xFE] = .error (.wrongLength 1) := by decide
/-- Rule R59: both spellings name one operation. -/
theorem test_spellings : ofSpelling "poll_active" = some .poll ∧ ofSpelling "STOPACT" = some .stopact ∧
    ofSpelling "RESET" = none := by decide
/-- Placed as the next word, a table word runs (rule R54). -/
theorem test_fetched_setact_runs : ∃ t, step (State.reset.withFetchWord 8 0b001) = .next t ∧ t.outcomes = [.done] :=
  ⟨_, rfl, rfl⟩

/-! ## Checksums (95_test_vectors.md §2.1) -/

theorem test_sum8_wraps : sum8 [0xFF, 0xFF, 0xFF, 0xFF, 0xFF, 0xFF] = 0xFA ∧ sum8 [0x80, 0x80] = 0x00 := by decide
theorem test_sum8_frame_a : sum8 [0x02, 0x11, 0x00, 0x00, 0x01, 0xE8] = 0xFC := by decide
/-- AV1, AV5, SC6. -/
theorem test_validate_active :
    validateActive frameA = .valid ∧ validateActive frameE = .checksumError ∧
    validateActive (frameA.set 0 0x00) = .checksumError := by decide
/-- QV1, QV3, QV4, QV5. -/
theorem test_validate_query :
    validateQuery .two q1Response = .valid ∧ validateQuery .one q1Response = .checksumError ∧
    validateQuery .one qv3 = .valid ∧ validateQuery .two qv3 = .valid ∧
    validateQuery .two (q1Response.set 0 0x00) = .checksumError := by decide

/-! ## One step of each instruction -/

/-- CM1. -/
theorem test_setact : seen (run .setact (at' 7 frameA [0x11, 0x22])) =
    some ([.done], 0, [0x11, 0x22], [0xFE, 0x00, 0x78, 0x40, 0x00, 0x00, 0x00, 0x00, 0xB8]) := by decide
/-- CM5, with two bytes sent before the failure. -/
theorem test_setact_write_fails :
    seen (run .setact (withDraws { Draws.quiet with txWriteFails := some 2 } (at' 5 frameA []))) =
      some ([.ioError], 0, [], [0xFE, 0x00]) := by decide
/-- CM2. -/
theorem test_setqry : seen (run .setqry (at' 3 frameA [])) =
    some ([.done], 0, [], [0xFE, 0x00, 0x78, 0x41, 0x00, 0x00, 0x00, 0x00, 0xB9]) := by decide
/-- CM3. -/
theorem test_stopact : seen (run .stopact (at' 3 frameA [])) =
    some ([.done], 0, [], [0xFE, 0x00, 0x78, 0x41, 0x00, 0x00, 0x00, 0x00, 0xB9]) := by decide
/-- FS5. -/
theorem test_poll_resyncs : run .poll (at' 4 frameE [0xFE]) =
    some { at' 1 frameE [] with outcomes := [.noData] } := by decide
/-- FS9 and AV8: the reading, the alarm sample and the flush. -/
theorem test_poll_reading : run .poll { at' 10 (frameA.set 10 0x77) [0x00, 0xAA, 0xBB, 0xFE] with alarm := true } =
    some { at' 0 frameA [] with
      alarm := true,
      outcomes := [.readingActive { status := 1, co2 := 529, ch2o := 0, tvocRaw := 488, alarm := true }] } := by decide
/-- QY1 with the default window, QY7's bytes beyond eleven. -/
theorem test_query_reading : seen (run .query (waiting .two (q1 ++ [0xAA, 0xBB, 0xCC]))) =
    some ([.readingQuery { tvocRaw := 500, raw2 := 100, alarm := false }], 0, [0xAA, 0xBB, 0xCC],
      [0xFE, 0x00, 0x86, 0x00, 0x00, 0x00, 0x00, 0x00, 0x86]) := by decide
/-- QY1 with the other window, and QY4. -/
theorem test_query_errors :
    (run .query (waiting .one q1)).map (·.outcomes) = some [.checksumError] ∧
    (run .query (waiting .two (q1.take 9))).map (fun t => (t.outcomes, t.rxq)) = some ([.noResponse], []) := by decide
/-- RO1 to RO4. -/
theorem test_reserved : [Instr.reserved000, .reserved101, .reserved110, .reserved111].map
    (fun i => run i (at' 6 frameA [0x11])) = List.replicate 4 (some { at' 6 frameA [0x11] with outcomes := [.reject] }) := by
  decide
/-- Rule R90 on the three constants. -/
theorem test_command_frames : [Instr.cmdActive, .cmdQmode, .cmdQreq].map (fun i => (run i (at' 6 frameA [])).map (·.tx)) =
    [some [0xFE, 0x00, 0x78, 0x40, 0x00, 0x00, 0x00, 0x00, 0xB8],
     some [0xFE, 0x00, 0x78, 0x41, 0x00, 0x00, 0x00, 0x00, 0xB9],
     some [0xFE, 0x00, 0x86, 0x00, 0x00, 0x00, 0x00, 0x00, 0x86]] := by decide
/-- AV3's reading from its fields. -/
theorem test_active_frame :
    (run (.activeFrame 0xFE 0x03 0x00 0x1234 0x0056 0x0789 0x2C 0x00) State.reset).map (·.unitResult) =
      some (some (.readingActive { status := 3, co2 := 4660, ch2o := 86, tvocRaw := 1929, alarm := false })) := by decide
/-- QV2's reading from its fields. -/
theorem test_query_response :
    (run (.queryResponse 0xFE 0x00 0xFF 0xFF 0xFF 0xFFFF 0xFFFF 0xF9 none) State.reset).map (·.unitResult) =
      some (some (.readingQuery { tvocRaw := 65535, raw2 := 65535, alarm := false })) := by decide
/-- RO5. -/
theorem test_not_live_stops : exec .poll { State.reset with live := false } = .fault .notLive := by rfl
/-- RS2. -/
theorem test_failed_construction :
    let t := construct "/dev/tty" 9600 (withDraws { Draws.quiet with chanOpenFails := true } (at' 8 frameA [0x12]))
    (t.fill, t.live, t.rxq, t.outcomes) = (0, false, [0x12], [.ioError]) := by decide
/-- RS5. -/
theorem test_construction :
    let t := construct "/dev/tty" 9600 (at' 8 frameA [0x12, 0x34])
    (t.fill, t.live, t.rxq, t.outcomes) = (0, true, [], [.done]) := by decide

/-! ## Witnesses: the hypotheses of the obligations can be met -/

theorem witness_encode_of_decode_is_the_word :
    decodeOn .host [0b100] = .ok .query ∧ decodeOn .serializer cmdQreqBytes = .ok .cmdQreq ∧
    decodeOn .queryFrame q1 = .ok (.queryResponse 0xFE 0 0 0 0 500 100 0x59 (some 0)) ∧
    decodeOn .activeFrame frameA.toList = .ok (.activeFrame 0xFE 1 0 529 0 488 0xFC 0) := by decide

theorem witness_op_code_map : 8 ≤ (0x08 : Byte).toNat ∧ 8 ≤ (0xFF : Byte).toNat := by decide

theorem witness_sum_is_modulo_and_order_free : [(0x01 : Byte), 0x02].Perm [0x02, 0x01] := List.Perm.swap _ _ _

theorem witness_step_runs_the_decoded_word :
    (State.reset.withFetchWord 3 0b011).inputs = .request .host [0b011] Draws.quiet :: [] ∧
    decodeOn .host [0b011] = .ok .poll ∧ decodeOn .host [0b1000] = .error (.opCodeTooWide 8) := by decide

theorem witness_fetched_table_word_runs :
    decodeTableWord 8 0b011 = some .poll ∧ decodeTableWord 72 0xFE0086000000000086 = some .cmdQreq ∧
    decodeTableWord 80 0xFE0000000001F4006459 = some (.queryResponse 0xFE 0 0 0 0 500 100 0x59 none) := by decide

theorem witness_idle_block_keeps_its_state : State.reset.inputs = [] := by decide

/-- One state for each clause. -/
theorem witness_environment_steps :
    ∀ e ∈ [EnvAction.rxAppend [0xFE], .rxDrop [false], .setAlarm true, .setSensorMode .query],
      (State.reset.setInputs [.env e]).inputs = .env e :: [] := by decide

theorem witness_every_overflow_is_possible :
    [(0x02 : Byte), 0x03].Sublist ((at' 0 frameA [0x01, 0x02]).rxq ++ [0x03, 0x04]) ∧
    [(0x02 : Byte), 0x03].length ≤ (at' 0 frameA [0x01, 0x02]).params.rxDepth := by decide

/-- Each way a construction can end. -/
theorem witness_construction_from_any_state :
    (∀ d ∈ [Draws.quiet, { Draws.quiet with chanOpenFails := true }, { Draws.quiet with rxFlushFails := some 1 }],
      (State.reset.setInputs [.construct "" 9600 d]).inputs = .construct "" 9600 d :: []) ∧
    Draws.quiet.chanOpenFails = false ∧ Draws.quiet.rxFlushFails = none := by decide

theorem witness_operations_stop_when_not_ready :
    ({ State.reset with live := false } : State).live = false ∧
    ∀ v ∈ [(11 : BitVec 4), 15], (at' v frameA []).live = true ∧ 10 < (at' v frameA []).fill.toNat := by decide

theorem witness_ready_states_run_every_instruction :
    (∃ t, exec .query State.reset = .next t) ∧ (∃ t, exec .poll (at' 10 frameA [0x00]) = .next t) ∧
    State.reset.live = true ∧ (at' 10 frameA []).fill.toNat ≤ 10 := ⟨⟨_, rfl⟩, ⟨_, rfl⟩, rfl, by decide⟩

/-- For `SETACT`, `SETQRY`, `STOPACT` and the command frames: the write succeeds, or fails after some bytes. -/
theorem witness_commands :
    (at' 10 frameA []).live = true ∧ (at' 10 frameA []).fill.toNat ≤ 10 ∧
    (at' 10 frameA []).draws.txWriteFails = none ∧
    (withDraws { Draws.quiet with txWriteFails := some 9 } (at' 0 frameA [])).draws.txWriteFails = some 9 ∧
    (withDraws { Draws.quiet with txWriteFails := some 9 } (at' 0 frameA [])).ready := by decide

theorem witness_serializer_sends_command_frames :
    (Instr.cmdQreq, cmdQreqBytes) ∈ [(Instr.cmdActive, cmdActiveBytes), (Instr.cmdQmode, cmdQmodeBytes),
      (Instr.cmdQreq, cmdQreqBytes)] ∧ State.reset.ready := by decide

theorem witness_reserved_op_codes_reject :
    Instr.reserved111 ∈ [Instr.reserved000, .reserved101, .reserved110, .reserved111] ∧ State.reset.ready := by decide

/-- Both results of each validator, and both windows. -/
theorem witness_frames_are_validated_and_decoded :
    State.reset.ready ∧ (waiting .one []).ready ∧ (waiting .one []).params.qwinLo = .one ∧
    (waiting .two []).params.qwinLo = .two := by decide

/-- The first and last position of each clause, and a pair of changes that cancel (SC7). -/
theorem witness_active_single_byte_errors :
    validateActive frameA = .valid ∧ (0x03 : Byte) ≠ frameA[3] ∧ (0xFD : Byte) ≠ frameA[9] ∧ (0x07 : Byte) ≠ frameA[1] ∧
    (0xAA : Byte) ≠ frameA[10] ∧ (0x03 : Byte) + 0x10 = frameA[3] + frameA[4] ∧
    (0x03 : Byte) + 0xE7 = frameA[3] + frameA[8] := by decide

/-- With each window: a position inside it at either end, the checksum byte, and one outside it. -/
theorem witness_query_single_byte_errors :
    validateQuery .two q1Response = .valid ∧ validateQuery .one qv3 = .valid ∧
    (0x01 : Byte) ≠ q1Response[1] ∧ (0x01 : Byte) ≠ q1Response[2] ∧ (0x65 : Byte) ≠ q1Response[8] ∧
    (0x58 : Byte) ≠ q1Response[9] ∧ (0x01 : Byte) ≠ qv3[1] ∧ (0x01 : Byte) ≠ qv3[7] ∧ (0x01 : Byte) ≠ qv3[8] ∧
    (0x58 : Byte) ≠ qv3[9] := by decide

/-- FS2. -/
theorem witness_poll_of_empty_channel :
    let s := at' 3 frameA []
    s.ready ∧ s.draws.rxAvailFails = false ∧ s.rxq = [] := by decide

/-- FS4 and FS6: the least and the greatest fill index. -/
theorem witness_poll_stores_at_fill :
    ∀ v ∈ [(0 : BitVec 4), 9],
      let s := at' v frameA [0x12, 0x34]
      s.live = true ∧ s.fill.toNat < 10 ∧ s.draws.rxAvailFails = false ∧ s.draws.rxPopFails = none ∧
        s.rxq = 0x12 :: [0x34] ∧ (0x12 : Byte) ≠ 0xFE := by decide

/-- FS3 and FS7. -/
theorem witness_poll_resyncs_on_header :
    ∀ v ∈ [(0 : BitVec 4), 10],
      let s := at' v frameA [0xFE, 0x01]
      s.ready ∧ s.draws.rxAvailFails = false ∧ s.draws.rxPopFails = none ∧ s.rxq = 0xFE :: [0x01] := by decide

/-- FS10 for the checksum, the last `POLL` of FS12 for the header. -/
theorem witness_poll_reports_bad_frame :
    let s := at' 10 frameE [0x00, 0xAA, 0xBB]
    s.live = true ∧ s.fill = 10 ∧ s.draws.rxAvailFails = false ∧ s.draws.rxPopFails = none ∧
      s.rxq = 0x00 :: [0xAA, 0xBB] ∧ (0x00 : Byte) ≠ 0xFE ∧ frameE = s.rxbuf.setIfInBounds 10 0x00 ∧
      (frameE[3].toNat + frameE[4].toNat + frameE[5].toNat + frameE[6].toNat + frameE[7].toNat + frameE[8].toNat) % 256 ≠
        frameE[9].toNat ∧ (Vector.replicate 11 (0 : Byte))[0] ≠ 0xFE := by decide

/-- FS9, with a flush that succeeds and PE3, with one that fails. -/
theorem witness_poll_returns_reading :
    ∀ d ∈ [Draws.quiet, { Draws.quiet with rxFlushFails := some 1 }],
      let s := withDraws d (at' 10 frameA [0x00, 0xAA, 0xBB])
      s.live = true ∧ s.fill = 10 ∧ s.draws.rxAvailFails = false ∧ s.draws.rxPopFails = none ∧
        s.rxq = 0x00 :: [0xAA, 0xBB] ∧ (0x00 : Byte) ≠ 0xFE ∧ frameA = s.rxbuf.setIfInBounds 10 0x00 ∧ frameA[0] = 0xFE ∧
        (frameA[3].toNat + frameA[4].toNat + frameA[5].toNat + frameA[6].toNat + frameA[7].toNat + frameA[8].toNat) % 256 =
          frameA[9].toNat ∧ validateActive frameA = .valid ∧ (s.draws.rxFlushFails = none ∨ s.draws.rxFlushFails = some 1) := by
  decide

/-- PE1 and PE2, with and without the head byte lost. -/
theorem witness_poll_reports_channel_failure :
    let s := at' 4 frameA [0x11, 0x22]
    s.ready ∧ ({ Draws.quiet with rxAvailFails := true } : Draws).rxAvailFails = true ∧ s.rxq ≠ [] ∧
    ∀ k ∈ [0, 1], (withDraws { Draws.quiet with rxPopFails := some k } s).draws.rxPopFails = some k ∧
      (withDraws { Draws.quiet with rxPopFails := some k } s).draws.rxAvailFails = false := by decide

theorem witness_poll_writes_one_buffer_byte : ∃ t, exec .poll (at' 4 frameA [0x11]) = .next t := ⟨_, rfl⟩

/-- Eleven bytes from a state with a partial frame, and more behind them. -/
theorem witness_resync_frame_is_header_and_next_ten :
    let s := at' 10 frameE (frameA.toList ++ [0xAA])
    s.ready ∧ s.draws.noFailure ∧ (frameA.toList.drop 1).length = 10 ∧ (∀ b ∈ frameA.toList.drop 1, b ≠ 0xFE) ∧
      s.rxq = 0xFE :: (frameA.toList.drop 1 ++ [0xAA]) := by decide

theorem witness_eleven_polls_reconstruct_the_frame :
    let s := at' 10 frameE (frameA.toList ++ [0xAA])
    s.ready ∧ s.draws.noFailure ∧ s.rxq = frameA.toList ++ [0xAA] ∧ frameA[0] = 0xFE ∧
      (∀ j : Fin 11, 1 ≤ j.val → frameA[j] ≠ 0xFE) ∧
      frameA[9].toNat =
        (frameA[3].toNat + frameA[4].toNat + frameA[5].toNat + frameA[6].toNat + frameA[7].toNat + frameA[8].toNat) % 256 := by
  decide

/-- SC5, FE2 and a header at position 1. -/
theorem witness_frame_with_inner_header_is_not_received :
    ∀ j ∈ [(1 : Fin 11), 4, 10],
      let f := frameA.set j.val 0xFE j.isLt
      let s := at' 3 frameE (f.toList ++ [0xAA])
      s.ready ∧ s.draws.noFailure ∧ s.rxq = f.toList ++ [0xAA] ∧ f[0] = 0xFE ∧ 1 ≤ j.val ∧ f[j] = 0xFE ∧
        ∀ m : Fin 11, j.val < m.val → f[m] ≠ 0xFE := by decide

/-- No byte and nine bytes after the header. -/
theorem witness_accumulation_holds_the_last_bytes :
    ∀ bs ∈ [[], [(0x01 : Byte), 0x02, 0x03, 0x04, 0x05, 0x06, 0x07, 0x08, 0x09]],
      let s := at' 5 frameE (0xFE :: (bs ++ [0xAA]))
      s.ready ∧ s.draws.noFailure ∧ bs.length ≤ 9 ∧ (∀ b ∈ bs, b ≠ 0xFE) ∧ s.rxq = 0xFE :: (bs ++ [0xAA]) := by decide

/-- FS12. -/
theorem witness_headerless_accumulation_is_rejected :
    let f : Frame := Vector.replicate 11 0
    let s := at' 0 frameE (f.toList ++ [0xAA])
    s.live = true ∧ s.fill = 0 ∧ s.draws.noFailure ∧ s.rxq = f.toList ++ [0xAA] ∧ ∀ j : Fin 11, f[j] ≠ 0xFE := by decide

/-- QY3, one byte (QY5), nine (QY4), ten (QY6) and fourteen (QY7): each clause at the ends of its range. -/
theorem witness_query_outcomes :
    ∀ n ∈ [0, 1, 9, 10, 14],
      let s := waiting .two ((q1 ++ [0xAA, 0xBB, 0xCC]).take n)
      s.ready ∧ s.draws.noFailure ∧
        (actAll s.draws.duringWait { s with rxq := [], tx := s.tx ++ cmdQreqBytes }).rxq.length = n := by decide

/-- An index that is captured and one that is not. -/
theorem witness_capture_is_in_order :
    q1.length ≤ 11 ∧ (10 : Fin 11).val < q1.length ∧ (q1.take 10).length ≤ (10 : Fin 11).val := by decide

/-- QE1 to QE4. -/
theorem witness_query_reports_channel_failure :
    let q := (waiting .two q1).draws
    (∀ d ∈ [{ q with rxFlushFails := some 0 }, { q with txWriteFails := some 9 }, { q with rxAvailFails := true },
        { q with rxReadFails := some 11 }],
      let s := withDraws d (waiting .two q1)
      s.ready ∧ (actAll s.draws.duringWait { s with rxq := [], tx := s.tx ++ cmdQreqBytes }).rxq ≠ []) ∧
    ({ q with rxFlushFails := some 0 } : Draws).rxFlushFails = some 0 ∧
    ({ q with txWriteFails := some 9 } : Draws).rxFlushFails = none ∧
    ({ q with txWriteFails := some 9 } : Draws).txWriteFails = some 9 ∧
    ({ q with rxAvailFails := true } : Draws).rxFlushFails = none ∧
    ({ q with rxAvailFails := true } : Draws).txWriteFails = none ∧
    ({ q with rxAvailFails := true } : Draws).rxAvailFails = true ∧
    ({ q with rxReadFails := some 11 } : Draws).rxFlushFails = none ∧
    ({ q with rxReadFails := some 11 } : Draws).txWriteFails = none ∧
    ({ q with rxReadFails := some 11 } : Draws).rxAvailFails = false ∧
    ({ q with rxReadFails := some 11 } : Draws).rxReadFails = some 11 := by decide

/-- QY11's state, and a second legal fill index. -/
theorem witness_query_leaves_the_synchronizer :
    (∃ t, exec .query (at' 5 frameA []) = .next t) ∧ (at' 5 frameA []).ready ∧ (10 : BitVec 4).toNat ≤ 10 :=
  ⟨⟨_, rfl⟩, by decide, by decide⟩

theorem witness_ten_byte_response_is_enough :
    State.reset.ready ∧ 11 ≤ State.reset.params.rxDepth ∧ (q1.take 10).length = 10 := by decide

theorem witness_access_table_frames :
    (∃ t, exec .poll (at' 10 frameA [0x00]) = .next t) ∧ (∃ t, exec .query (waiting .two q1) = .next t) ∧
    (∃ t, exec .setact State.reset = .next t) ∧ (∃ t, exec .cmdQreq State.reset = .next t) :=
  ⟨⟨_, rfl⟩, ⟨_, rfl⟩, ⟨_, rfl⟩, ⟨_, rfl⟩⟩

theorem witness_one_outcome_of_its_own :
    Instr.poll.port = .host ∧ ∃ t, exec .poll (at' 10 frameE [0x00]) = .next t := ⟨rfl, ⟨_, rfl⟩⟩

theorem witness_no_outcome_is_fatal :
    ∃ t, exec .poll (at' 10 frameE [0x00]) = .next t ∧ t.outcomes = [.checksumError] := ⟨_, rfl, rfl⟩

/-- A state that meets the invariant with a full accumulation, and a step that takes a byte. -/
theorem witness_every_step_keeps_the_invariant :
    (at' 10 frameA [0x00]).Inv ∧ ∃ t, step ((at' 10 frameA [0x00]).withFetchWord 3 0b011) = .next t :=
  ⟨by decide, ⟨_, rfl⟩⟩

/-- Two states that differ beyond `FILL` and in `QCAP`. -/
theorem witness_stale_content_is_unobservable :
    (at' 3 frameA []).sameButStale { at' 3 (frameA.set 3 0x55) [] with qcap := frameE } ∧
    at' 3 frameA [] ≠ { at' 3 (frameA.set 3 0x55) [] with qcap := frameE } := ⟨⟨rfl, by decide⟩, by decide⟩

/-- A construction that fails on a live block. -/
theorem witness_only_construction_writes_live :
    ∃ t, step (State.reset.setInputs [.construct "" 9600 { Draws.quiet with chanOpenFails := true }]) = .next t ∧
      t.live ≠ State.reset.live := ⟨_, rfl, by decide⟩

theorem witness_only_command_frames_are_sent : ∃ t, step (State.reset.withFetchWord 3 0b001) = .next t ∧ t.tx ≠ [] :=
  ⟨_, rfl, by decide⟩

/-- A construction that changes the parameters. -/
theorem witness_parameters_are_fixed :
    ∃ t, step (State.reset.setInputs [.construct "" 9600 Draws.quiet]) = .next t ∧ t.params ≠ State.reset.params :=
  ⟨_, rfl, by decide⟩

end Sys2Proof.Tests
end

section
/-! PROOFS. The checksum `sum8` (rule R62): it is read from the bytes only through their sum as numbers, so the
order of the bytes does not matter. -/

namespace Sys2Proof.Machine

/-- The order of the bytes does not matter (rule R62): permuted bytes have the same sum as numbers. -/
theorem sum8_eq_of_perm {a b : List Byte} (h : a.Perm b) : sum8 a = sum8 b := by
  have hsum : (a.map BitVec.toNat).sum = (b.map BitVec.toNat).sum := (h.map BitVec.toNat).sum_eq
  rw [sum8_eq_iff, toNat_sum8, hsum]

/-- Settles O6: the sum as a number is `toNat_sum8`, the order is `sum8_eq_of_perm`. -/
theorem sumIsModuloAndOrderFree : Obligations.SumIsModuloAndOrderFree := by
  unfold Obligations.SumIsModuloAndOrderFree
  exact fun a _ => ⟨toNat_sum8 a, sum8_eq_of_perm⟩

end Sys2Proof.Machine
end

section
/-! PROOFS. `POLL` by the failures of its channel primitives (rules R76 and R89): one equation for `POLL` for
each way it ends before it takes a byte, and what a completion returns by the outcome of its flush. -/

namespace Sys2Proof.Machine

/-- `POLL` in a ready state runs its pseudocode to its return (rules R38, R78). -/
theorem exec_poll_of_ready {s : State} (h : s.ready) : exec .poll s = .next (pollBody s) :=
  (exec_eq_accept .poll s).trans (accept_of_ready h)

/-- A failed `RxAvail` changes nothing (rule R89). -/
theorem pollBody_of_avail_failed {s : State} (ha : s.draws.rxAvailFails = true) :
    pollBody s = s.ret .ioError := by
  simp [pollBody, rxAvail, ha]

/-- With no byte available `POLL` calls no other primitive (rule R76). -/
theorem pollBody_of_empty {s : State} (ha : s.draws.rxAvailFails = false) (hq : s.rxq = []) :
    pollBody s = s.ret .noData := by
  simp [pollBody, rxAvail, ha, hq]

/-- A failed `RxPop` may have removed the head byte and changes nothing else (rules R36, R89). -/
theorem pollBody_of_pop_failed {s : State} {k : Nat} (ha : s.draws.rxAvailFails = false)
    (hp : s.draws.rxPopFails = some k) (hq : s.rxq ≠ []) :
    pollBody s = (s.setRxq (s.rxq.drop (min k 1))).ret .ioError := by
  simp [pollBody, rxAvail, rxPop, ha, hp, hq]

/-- A byte that is no header, taken at `FILL` = 10, completes the frame (rules R80, R81). -/
theorem takeByte_of_fill_ten {b : Byte} {s : State} (hb : b ≠ 0xFE) (hf : s.fill = 10) :
    takeByte b s = completeFrame ((s.storeRx 10 b).setFill 11) := by
  have hadv : advance (storeWithResync b s) = (s.storeRx 10 b).setFill 11 := by
    rw [storeWithResync_ne hb, advance, State.storeRx_fill, hf]
    rfl
  rw [takeByte, hadv]
  rfl

/-- A flush that fails after a valid completion leaves `FILL` = 0 and the frame, and gives no reading
(rules R84, R89). -/
theorem completeFrame_of_flush_failed {s : State} {k : Nat} (hv : validateActive s.rxbuf = .valid)
    (hk : s.draws.rxFlushFails = some k) :
    completeFrame s = ((s.setFill 0).setRxq (s.rxq.drop k)).ret .ioError := by
  simp [completeFrame, rxFlush, hv, hk]

/-- The same for the byte that completes the frame: it is stored, and nothing else is written (rules R81, R84,
R89). -/
theorem takeByte_of_flush_failed {b : Byte} {k : Nat} {s : State} (hb : b ≠ 0xFE) (hf : s.fill = 10)
    (hv : validateActive (s.rxbuf.setIfInBounds 10 b) = .valid) (hk : s.draws.rxFlushFails = some k) :
    takeByte b s = (((s.storeRx 10 b).setFill 0).setRxq (s.rxq.drop k)).ret .ioError :=
  (takeByte_of_fill_ten hb hf).trans (completeFrame_of_flush_failed (s := (s.storeRx 10 b).setFill 11) hv hk)

/-- A frame that fails the header or the checksum test is not flushed (rule R83). -/
theorem completeFrame_of_checksumError {s : State} (hv : validateActive s.rxbuf = .checksumError) :
    completeFrame s = (s.setFill 0).ret .checksumError := by
  simp [completeFrame, hv]

/-- A completion whose flush does not fail returns the validator's answer (rules R81 to R84). -/
theorem completeFrame_of_flush_ok {s : State} (hk : s.draws.rxFlushFails = none) :
    ∃ q, completeFrame s = ((s.setFill 0).setRxq q).ret (activeAnswer s.rxbuf s.alarm) := by
  cases hv : validateActive s.rxbuf with
  | checksumError =>
    have hanswer : activeAnswer s.rxbuf s.alarm = .checksumError := by simp [activeAnswer, hv]
    exact ⟨s.rxq, by rw [completeFrame_of_checksumError hv, hanswer]; rfl⟩
  | valid => exact ⟨[], by simp [completeFrame, activeAnswer, rxFlush, alarmSample, hv, hk]⟩

/-- The validator never answers `IoError` (rules R66, R69). -/
theorem activeAnswer_ne_ioError (f : Frame) (a : Bool) : activeAnswer f a ≠ .ioError := by
  unfold activeAnswer
  cases validateActive f <;> simp [decodeActive]

/-- With a flush that does not fail, no byte taken gives `IoError` (rules R85, R89). -/
theorem takeByte_returns_no_ioError (b : Byte) {s : State} (hf : s.fill.toNat ≤ 10)
    (hk : s.draws.rxFlushFails = none) :
    ∃ r, (takeByte b s).outcomes = s.outcomes ++ [r] ∧ r ≠ .ioError := by
  obtain ⟨i, -, -, v, -, hadv⟩ := advance_storeWithResync (b := b) hf
  simp only [takeByte, hadv]
  split
  · exact ⟨.noData, rfl, by simp⟩
  · obtain ⟨q, hc⟩ := completeFrame_of_flush_ok (s := (s.storeRx i b).setFill v) hk
    rw [hc]
    exact ⟨_, rfl, activeAnswer_ne_ioError _ _⟩

/-- With no failure of `RxAvail`, `RxPop` and the flush, `POLL` does not return `IoError` (rule R89). -/
theorem pollBody_returns_no_ioError {s : State} (hf : s.fill.toNat ≤ 10) (ha : s.draws.rxAvailFails = false)
    (hp : s.draws.rxPopFails = none) (hk : s.draws.rxFlushFails = none) :
    ∃ r, (pollBody s).outcomes = s.outcomes ++ [r] ∧ r ≠ .ioError := by
  cases hq : s.rxq with
  | nil =>
    rw [pollBody_of_empty ha hq]
    exact ⟨.noData, rfl, by simp⟩
  | cons b q =>
    rw [pollBody_of_byte ha hp hq]
    exact takeByte_returns_no_ioError b (s := s.setRxq q) hf hk

/-- Settles O34: one lemma for each primitive that can fail, and `pollBody_returns_no_ioError` for the rest. -/
theorem pollReportsChannelFailure : Obligations.PollReportsChannelFailure := by
  unfold Obligations.PollReportsChannelFailure
  intro s hlive hfill
  rw [exec_poll_of_ready ⟨hlive, hfill⟩]
  refine ⟨fun ha => ?_, fun k ha hq hp => ?_, fun b q k f ha hp hk hten hq hb hf hv => ?_, fun ha hp hk => ?_⟩
  · rw [pollBody_of_avail_failed ha]
    rfl
  · rw [pollBody_of_pop_failed ha hp hq]
    rfl
  · subst hf
    rw [pollBody_of_byte ha hp hq, takeByte_of_flush_failed (s := s.setRxq q) hb hten hv hk]
    rfl
  · obtain ⟨r, hr, hne⟩ := pollBody_returns_no_ioError hfill ha hp hk
    exact ⟨_, r, rfl, hr, hne⟩

/-- Settles O29: `pollBody_of_empty` in an accepted state. -/
theorem pollOfEmptyChannel : Obligations.PollOfEmptyChannel := by
  unfold Obligations.PollOfEmptyChannel
  intro s hlive hfill ha hq
  rw [exec_poll_of_ready ⟨hlive, hfill⟩, pollBody_of_empty ha hq]
  rfl

end Sys2Proof.Machine
end

section
/-! PROOFS. The command serializer (rules R90 to R96): a command is sent whole or up to a leading part, `modeCommand`
has one equation for each of the two, and the mode commands are it at `CMD_ACTIVE` and `CMD_QMODE`. -/

namespace Sys2Proof.Machine

/-- Settles O5: the sum of bytes 1 to 7 of each constant, evaluated beside its last byte. -/
theorem commandChecksumRoundTrip : Obligations.CommandChecksumRoundTrip := by
  unfold Obligations.CommandChecksumRoundTrip
  exact ⟨⟨by decide, rfl⟩, ⟨by decide, rfl⟩, ⟨by decide, rfl⟩⟩

/-- An instruction in a ready state runs its body to its return (rule R38). -/
theorem exec_of_ready (i : Instr) {s : State} (h : s.ready) : exec i s = .next (bodyOf i s) :=
  (exec_eq_accept i s).trans (accept_of_ready h)

/-- A command whose write does not fail is sent whole (rules R35, R90). -/
theorem sendCmd_of_write_ok (k : List Byte) {s : State} (hw : s.draws.txWriteFails = none) :
    sendCmd k s = .ok () (s.send k) := by
  simp [sendCmd, txWrite, hw]

/-- A command whose write fails has been sent up to the drawn leading part (rules R36, R90). -/
theorem sendCmd_of_write_failed (k : List Byte) {n : Nat} {s : State} (hw : s.draws.txWriteFails = some n) :
    sendCmd k s = .failed (s.send (k.take n)) := by
  simp [sendCmd, txWrite, hw]

/-- A mode command that is written whole clears `FILL` and returns `Done` (rules R92, R93). -/
theorem modeCommand_of_write_ok (k : List Byte) {s : State} (hw : s.draws.txWriteFails = none) :
    modeCommand k s = ((s.setFill 0).send k).ret .done := by
  rw [modeCommand, sendCmd_of_write_ok k (s := s.setFill 0) hw, orIoError_ok]

/-- A mode command whose write fails has cleared `FILL` before it, and returns `IoError` (rules R92, R93). -/
theorem modeCommand_of_write_failed (k : List Byte) {n : Nat} {s : State} (hw : s.draws.txWriteFails = some n) :
    modeCommand k s = ((s.setFill 0).send (k.take n)).ret .ioError := by
  rw [modeCommand, sendCmd_of_write_failed k (s := s.setFill 0) hw, orIoError_failed]

/-- An instruction whose body is the mode command of `k`, in a ready state: `k` is sent whole and `Done` returned, or
a leading part of it and `IoError`; `FILL` is 0 in both (rules R92, R93). -/
theorem exec_of_modeCommand {i : Instr} {k : List Byte} (hi : bodyOf i = modeCommand k) {s : State} (h : s.ready) :
    (s.draws.txWriteFails = none → exec i s = .next (((s.setFill 0).send k).ret .done)) ∧
    (∀ n, s.draws.txWriteFails = some n → exec i s = .next (((s.setFill 0).send (k.take n)).ret .ioError)) := by
  rw [exec_of_ready i h, hi]
  refine ⟨fun hw => ?sent, fun n hw => ?failed⟩
  case sent => rw [modeCommand_of_write_ok k hw]
  case failed => rw [modeCommand_of_write_failed k hw]

/-- `STOPACT` is `SETQRY` in every state, also where neither is accepted (rule R94). -/
theorem exec_stopact (s : State) : exec .stopact s = exec .setqry s := by
  rw [exec_eq_accept, exec_eq_accept, bodyOf, bodyOf]

/-- Settles O18: `exec_of_modeCommand` at `CMD_ACTIVE`. -/
theorem setactClearsFillAndSends : Obligations.SetactClearsFillAndSends := by
  unfold Obligations.SetactClearsFillAndSends
  have hbody : bodyOf .setact = modeCommand cmdActiveBytes := rfl
  exact ⟨rfl, fun s hlive hfill => exec_of_modeCommand hbody ⟨hlive, hfill⟩⟩

/-- Settles O19: `exec_of_modeCommand` at `CMD_QMODE`. -/
theorem setqryClearsFillAndSends : Obligations.SetqryClearsFillAndSends := by
  unfold Obligations.SetqryClearsFillAndSends
  have hbody : bodyOf .setqry = modeCommand cmdQmodeBytes := rfl
  exact ⟨rfl, fun s hlive hfill => exec_of_modeCommand hbody ⟨hlive, hfill⟩⟩

/-- Settles O20: `exec_stopact` turns `STOPACT` into `SETQRY`, whose effect is the first case of
`setqryClearsFillAndSends`. -/
theorem stopactIsSetqry : Obligations.StopactIsSetqry := by
  unfold Obligations.StopactIsSetqry
  refine ⟨rfl, rfl, exec_stopact, fun s hlive hfill hw => ?_⟩
  obtain ⟨-, hsetqry⟩ := setqryClearsFillAndSends
  obtain ⟨hsent, -⟩ := hsetqry s hlive hfill
  exact (exec_stopact s).trans (hsent hw)

end Sys2Proof.Machine
end

section
/-! PROOFS. `QUERY` by the failures of its channel primitives (rules R97 and R107): one equation for each way `QUERY`
ends before its wait, one for a `QUERY` whose request is sent whole, and one for each way the part after the wait
fails. -/

namespace Sys2Proof.Machine

/-- The environment changes neither the draws in force nor the outcomes returned (rule R37). -/
theorem actAll_keeps_draws_outcomes (l : List EnvAction) (s : State) :
    (actAll l s).draws = s.draws ∧ (actAll l s).outcomes = s.outcomes := by
  obtain ⟨q, v, m, hact, -⟩ := actAll_spec l s
  rw [hact]
  exact ⟨rfl, rfl⟩

/-- A failed flush ends `QUERY` before anything is sent (rule R107). -/
theorem queryBody_of_flush_failed {s : State} {k : Nat} (hk : s.draws.rxFlushFails = some k) :
    queryBody s = (s.setRxq (s.rxq.drop k)).ret .ioError := by
  simp [queryBody, rxFlush, hk]

/-- A flush that does not fail leaves `RXQ` empty for the request (rules R34, R97). -/
theorem queryBody_of_flush_ok {s : State} (hk : s.draws.rxFlushFails = none) :
    queryBody s =
      orIoError (sendCmd cmdQreqBytes (s.setRxq [])) fun _ s => readResponse (wait Config.tQWaitMs s) := by
  simp [queryBody, rxFlush, hk]

/-- A failed send ends `QUERY` before its wait, with a leading part of the request sent (rule R107). -/
theorem queryBody_of_write_failed {s : State} {k : Nat} (hf : s.draws.rxFlushFails = none)
    (hw : s.draws.txWriteFails = some k) :
    queryBody s = ((s.setRxq []).send (cmdQreqBytes.take k)).ret .ioError := by
  rw [queryBody_of_flush_ok hf, sendCmd_of_write_failed cmdQreqBytes (s := s.setRxq []) hw, orIoError_failed]

/-- With the request sent whole, `QUERY` reads the response from what the environment leaves (rules R97, R106). -/
theorem queryBody_of_write_ok {s : State} (hf : s.draws.rxFlushFails = none) (hw : s.draws.txWriteFails = none) :
    queryBody s = readResponse (actAll s.draws.duringWait ((s.setRxq []).send cmdQreqBytes)) := by
  rw [queryBody_of_flush_ok hf, sendCmd_of_write_ok cmdQreqBytes (s := s.setRxq []) hw, orIoError_ok]
  rfl

/-- A failed `RxAvail` after the wait changes nothing (rule R107). -/
theorem readResponse_of_avail_failed {s : State} (ha : s.draws.rxAvailFails = true) :
    readResponse s = s.ret .ioError := by
  simp [readResponse, rxAvail, ha]

/-- A failed read of `n` bytes has removed at most `n` of them, and leaves `QCAP` free (rules R36, R107). -/
theorem captureBytes_of_read_failed (n : Nat) {s : State} {k : Nat} (hr : s.draws.rxReadFails = some k) :
    captureBytes n s = .failed (s.setRxq (s.rxq.drop (min k n))).freeQcap := by
  simp [captureBytes, rxRead, hr]

/-- With a byte in `RXQ` after the wait, a failed read of up to eleven bytes ends `QUERY` (rules R98, R107). -/
theorem readResponse_of_read_failed {s : State} {k : Nat} (ha : s.draws.rxAvailFails = false) (hq : s.rxq ≠ [])
    (hr : s.draws.rxReadFails = some k) :
    readResponse s = (s.setRxq (s.rxq.drop (min k (min s.rxq.length 11)))).freeQcap.ret .ioError := by
  have havail : rxAvail s = .ok s.rxq.length s := by simp [rxAvail, ha]
  have hlen : s.rxq.length ≠ 0 := by simpa using hq
  simp only [readResponse, havail, orIoError_ok, if_neg hlen, captureBytes_of_read_failed _ hr, orIoError_failed]
  rfl

/-- Settles O43: one equation of `QUERY` for each primitive that fails; the draws after the wait are those before it
by `actAll_keeps_draws_outcomes`. -/
theorem queryReportsChannelFailure : Obligations.QueryReportsChannelFailure := by
  unfold Obligations.QueryReportsChannelFailure
  intro s w hlive hfill hwait
  rw [show exec .query s = .next (queryBody s) from exec_of_ready .query ⟨hlive, hfill⟩]
  have hsent (hf : s.draws.rxFlushFails = none) (hw : s.draws.txWriteFails = none) : queryBody s = readResponse w :=
    hwait ▸ queryBody_of_write_ok hf hw
  obtain ⟨hdraws, hout⟩ : w.draws = s.draws ∧ w.outcomes = s.outcomes := hwait ▸ actAll_keeps_draws_outcomes _ _
  refine ⟨fun k hf => ?flush, fun k hf hw => ?send, fun hf hw ha => ?avail, fun k hf hw ha hq hr => ?read⟩
  case flush =>
    rw [queryBody_of_flush_failed hf]
    rfl
  case send =>
    rw [queryBody_of_write_failed hf hw]
    rfl
  case avail =>
    rw [hsent hf hw, readResponse_of_avail_failed (hdraws ▸ ha), ← hout]
    rfl
  case read =>
    rw [hsent hf hw, readResponse_of_read_failed (hdraws ▸ ha) hq (hdraws ▸ hr), ← hout]
    exact ⟨_, rfl, rfl⟩

end Sys2Proof.Machine
end

section
/-! PROOFS. The encodings (rules R46, R47, R53 and R55): each interface's decoder and the encoder undo each other,
one lemma for each interface, and the words of the spec's own examples. -/

namespace Sys2Proof

open Machine

/-- Each two-byte field of an active frame is read back from its bytes (rule R46). -/
theorem decodeOn_activeLayout (hdr status byte2 : Byte) (co2 ch2o tvoc : Half) (csum byte10 : Byte) :
    decodeOn .activeFrame (activeLayout hdr status byte2 co2 ch2o tvoc csum byte10).toList =
      .ok (.activeFrame hdr status byte2 co2 ch2o tvoc csum byte10) := by
  simp [decodeOn, activeLayout]

/-- Each two-byte field of a query response is read back from its bytes, with or without byte 10 (rule R47). -/
theorem decodeOn_responseLayout (hdr byte1 byte2 byte3 byte4 : Byte) (tvoc raw2 : Half) (csum : Byte)
    (byte10 : Option Byte) :
    decodeOn .queryFrame ((responseLayout hdr byte1 byte2 byte3 byte4 tvoc raw2 csum).toList ++ byte10.toList) =
      .ok (.queryResponse hdr byte1 byte2 byte3 byte4 tvoc raw2 csum byte10) := by
  cases byte10 with
  | none => simp [decodeOn, responseLayout]
  | some b => simp [decodeOn, responseLayout]

/-- Settles O1: the op codes and commands by evaluation, each frame by the lemma of its layout. -/
theorem decodeOfEncodeIsTheInstruction : Obligations.DecodeOfEncodeIsTheInstruction := by
  unfold Obligations.DecodeOfEncodeIsTheInstruction
  intro i
  cases i with
  | activeFrame => exact decodeOn_activeLayout ..
  | queryResponse => exact decodeOn_responseLayout ..
  | cmdActive | cmdQmode | cmdQreq => rfl
  | setact | setqry | stopact | poll | query => rfl
  | reserved000 | reserved101 | reserved110 | reserved111 => rfl

/-- An op code is the word of the operation that it selects (rule R55). -/
theorem encode_of_decodeOp {b : Byte} {i : Instr} (h : decodeOp b = .ok i) : encode i = [b] ∧ i.port = .host := by
  have hcode (n : Nat) (hn : b.toNat = n) : b = BitVec.ofNat 8 n := by rw [← hn, BitVec.ofNat_toNat, BitVec.setWidth_eq]
  unfold decodeOp at h
  split at h <;> cases h <;> exact ⟨congrArg (· :: []) (hcode _ ‹_›).symm, rfl⟩

/-- A command frame is the word of the command that it names (rule R53). -/
theorem encode_of_decodeCommand {w : List Byte} {i : Instr} (h : decodeCommand w = .ok i) :
    encode i = w ∧ i.port = .serializer := by
  unfold decodeCommand at h
  split_ifs at h with hactive hqmode hqreq <;> cases h
  · exact ⟨hactive.symm, rfl⟩
  · exact ⟨hqmode.symm, rfl⟩
  · exact ⟨hqreq.symm, rfl⟩

/-- Settles O2: on each interface the decoder's cases are words of one length, whose bytes the encoder puts back. -/
theorem encodeOfDecodeIsTheWord : Obligations.EncodeOfDecodeIsTheWord := by
  unfold Obligations.EncodeOfDecodeIsTheWord
  intro p w i h
  cases p with
  | host =>
    simp only [decodeOn] at h
    split at h
    · exact encode_of_decodeOp h
    · cases h
  | serializer =>
    simp only [decodeOn] at h
    split at h
    · exact encode_of_decodeCommand h
    · cases h
  | activeFrame =>
    simp only [decodeOn] at h
    split at h
    · cases h
      simp [encode, activeLayout, Instr.port]
    · cases h
  | queryFrame =>
    simp only [decodeOn] at h
    split at h
    · cases h
      simp [encode, responseLayout, Instr.port]
    · cases h
      simp [encode, responseLayout, Instr.port]
    · cases h

/-- A host-port value that does not fit three bits selects no operation (log entry 12). -/
theorem decodeOp_of_wide {b : Byte} (h : 8 ≤ b.toNat) : decodeOp b = .error (.opCodeTooWide b) := by
  obtain ⟨n, hn⟩ : ∃ n, b.toNat = n + 8 := ⟨b.toNat - 8, by omega⟩
  simp only [decodeOp, hn]

/-- Settles O3: the eight op codes by evaluation, the wider values by `decodeOp_of_wide`. -/
theorem opCodeMap : Obligations.OpCodeMap := by
  unfold Obligations.OpCodeMap
  exact ⟨rfl, rfl, rfl, rfl, rfl, rfl, rfl, rfl, fun _ => decodeOp_of_wide⟩

/-- Settles O4: each frame word is the encoding of its fields, and decodes to them by `decodeOfEncodeIsTheInstruction`. -/
theorem frameWordsDecode : Obligations.FrameWordsDecode := by
  unfold Obligations.FrameWordsDecode
  have hdecode := decodeOfEncodeIsTheInstruction
  exact ⟨hdecode .cmdActive, hdecode .cmdQmode, hdecode .cmdQreq,
    hdecode (.activeFrame 0xFE 0x01 0x00 529 0 488 0xFC 0x00),
    hdecode (.queryResponse 0xFE 0x00 0x00 0x00 0x00 500 100 0x59 (some 0x00)),
    hdecode (.queryResponse 0xFE 0x00 0x00 0x00 0x00 500 100 0x59 none)⟩

/-- Settles O7: `toNat_be16`, and the laws by which `be16`, `hi8` and `lo8` undo each other. -/
theorem fieldsAreBigEndian : Obligations.FieldsAreBigEndian := by
  unfold Obligations.FieldsAreBigEndian
  exact ⟨fun hi lo => ⟨toNat_be16 hi lo, hi8_be16 hi lo, lo8_be16 hi lo⟩, be16_hi8_lo8⟩

/-- The port shows every result's own code, whatever fields it carries (rules R56, R57). -/
theorem onPort_resCode (r : Result) : r.onPort.resCode = r.code := by
  cases r <;> rfl

/-- Settles O8: the codes and the two readings by evaluation; a result that carries no field leaves them 0. -/
theorem resultWordAndPort : Obligations.ResultWordAndPort := by
  unfold Obligations.ResultWordAndPort
  refine ⟨⟨rfl, rfl, rfl, rfl, fun _ => rfl, fun _ => rfl, rfl, rfl⟩, onPort_resCode, fun _ => rfl, fun _ => rfl, ?_⟩
  simp [Result.onPort]

end Sys2Proof
end

section
/-! PROOFS. What an instruction can do (rule R26), said once for each kind of instruction as `Effect`; the frames, the
outcomes and the bytes sent of every instruction are read from it. -/

namespace Sys2Proof.Machine

/-- An instruction answers a next state only from a ready state, and then the one its body leaves (rule R38). -/
theorem exec_eq_next {i : Instr} {s t : State} : exec i s = .next t ↔ s.ready ∧ bodyOf i s = t := by
  rw [exec_eq_accept]
  exact accept_eq_next

/-- What a mode command can do (rules R91 to R93). -/
theorem modeCommand_cases (k : List Byte) (s : State) :
    ∃ n r, modeCommand k s = ((s.setFill 0).send (k.take n)).ret r ∧ (r = .done ∨ r = .ioError) := by
  cases hw : s.draws.txWriteFails with
  | none => exact ⟨k.length, .done, by rw [modeCommand_of_write_ok k hw, List.take_length], .inl rfl⟩
  | some n => exact ⟨n, .ioError, modeCommand_of_write_failed k hw, .inr rfl⟩

/-- A command frame on its own that is written whole gives nothing back (rule R90; log entry 5). -/
theorem serializeAlone_of_write_ok (k : List Byte) {s : State} (hw : s.draws.txWriteFails = none) :
    serializeAlone k s = (s.send k).setUnitResult none := by
  rw [serializeAlone, sendCmd_of_write_ok k hw]

/-- A command frame on its own whose write fails gives `IoError`, with a leading part sent (rule R90; log entry 5). -/
theorem serializeAlone_of_write_failed (k : List Byte) {n : Nat} {s : State} (hw : s.draws.txWriteFails = some n) :
    serializeAlone k s = (s.send (k.take n)).setUnitResult (some .ioError) := by
  rw [serializeAlone, sendCmd_of_write_failed k hw]

/-- What a command frame on its own can do (rule R90; log entry 5). -/
theorem serializeAlone_cases (k : List Byte) (s : State) :
    ∃ n r, serializeAlone k s = (s.send (k.take n)).setUnitResult r := by
  cases hw : s.draws.txWriteFails with
  | none => exact ⟨k.length, none, by rw [serializeAlone_of_write_ok k hw, List.take_length]⟩
  | some n => exact ⟨n, some .ioError, serializeAlone_of_write_failed k hw⟩

/-- The outcomes of a completion are outcomes of `POLL` (rules R83, R84, R112). -/
theorem mayReturn_poll_of_completion {r : Result} (h : r = .checksumError ∨ r = .ioError ∨ ∃ x, r = .readingActive x) :
    mayReturn .poll r = true := by
  obtain rfl | rfl | ⟨x, rfl⟩ := h <;> rfl

/-- What `POLL` can do from a legal `FILL` (rules R78, R112): `FILL` is legal again, a leading part of `RXQ` is gone,
and one outcome is returned. -/
theorem pollBody_frame {s : State} (h : s.fillLegal) :
    ∃ b v n r, pollBody s = { s with rxbuf := b, fill := v, rxq := s.rxq.drop n, outcomes := s.outcomes ++ [r] } ∧
      v.toNat ≤ 10 ∧ mayReturn .poll r = true := by
  obtain ⟨n, r, hp, hr⟩ | ⟨b, q, hq, hp⟩ := pollBody_cases s
  · exact ⟨_, _, n, r, hp, h, by obtain rfl | rfl := hr <;> rfl⟩
  · obtain ⟨i, v, q', r, ht, ⟨n, hn⟩, -, hcase⟩ := takeByte_cases b (s := s.setRxq q) h
    have hdrop : q' = s.rxq.drop (n + 1) := by rw [hn, hq]; rfl
    refine ⟨s.rxbuf.setIfInBounds i b, v, n + 1, r, by rw [hp, ht, hdrop]; rfl, ?_⟩
    obtain ⟨-, hv, rfl⟩ | ⟨rfl, -, hr⟩ := hcase
    · exact ⟨hv, rfl⟩
    · exact ⟨Nat.zero_le _, mayReturn_poll_of_completion hr⟩

/-- What an instruction can do to a ready state, for each kind of instruction: the state it leaves, with what is free
in it, and what is known of it. -/
inductive Effect (s : State) : Instr → State → Prop
  /-- A mode command clears `FILL`, sends a leading part of its command and returns (rules R91 to R94). -/
  | mode {i k r} (n : Nat) (hi : i = .setact ∨ i = .setqry ∨ i = .stopact)
      (hk : k ∈ [cmdActiveBytes, cmdQmodeBytes, cmdQreqBytes]) (hr : mayReturn i r = true) :
      Effect s i (((s.setFill 0).send (k.take n)).ret r)
  /-- `POLL` (rule R78). -/
  | poll {v r} (b : Frame) (n : Nat) (hv : v.toNat ≤ 10) (hr : mayReturn .poll r = true) :
      Effect s .poll { s with rxbuf := b, fill := v, rxq := s.rxq.drop n, outcomes := s.outcomes ++ [r] }
  /-- `QUERY` (rules R97, R107, R108). -/
  | query {q r} (c : Frame) (f n : Nat) (v : Bool) (m : SensorMode) (hr : mayReturn .query r = true)
      (hq : s.rxqFits → q.length ≤ s.params.rxDepth) :
      Effect s .query { s with
        rxq := q, qcap := c, freeCount := f, tx := s.tx ++ cmdQreqBytes.take n, alarm := v, sensorMode := m,
        outcomes := s.outcomes ++ [r] }
  /-- A reserved op code (rule R58). -/
  | reserved {i} (hi : i = .reserved000 ∨ i = .reserved101 ∨ i = .reserved110 ∨ i = .reserved111) :
      Effect s i (s.ret .reject)
  /-- A command frame on its own (rule R90; log entry 5). -/
  | command {i k} (n : Nat) (r : Option Result) (hi : i = .cmdActive ∨ i = .cmdQmode ∨ i = .cmdQreq)
      (hk : k ∈ [cmdActiveBytes, cmdQmodeBytes, cmdQreqBytes]) :
      Effect s i ((s.send (k.take n)).setUnitResult r)
  /-- An inbound frame on its validator (rules R66, R67; log entry 5). -/
  | frame {i} (r : Option Result) (hi : i.port = .activeFrame ∨ i.port = .queryFrame) :
      Effect s i (s.setUnitResult r)

/-- A mode command has the effect of its kind. -/
theorem Effect.of_modeCommand {i : Instr} {k : List Byte} (s : State) (hb : bodyOf i = modeCommand k)
    (hi : i = .setact ∨ i = .setqry ∨ i = .stopact) (hk : k ∈ [cmdActiveBytes, cmdQmodeBytes, cmdQreqBytes]) :
    Effect s i (bodyOf i s) := by
  obtain ⟨n, r, heq, hr⟩ := modeCommand_cases k s
  rw [hb, heq]
  exact .mode n hi hk (by obtain rfl | rfl | rfl := hi <;> obtain rfl | rfl := hr <;> rfl)

/-- A command frame on its own has the effect of its kind. -/
theorem Effect.of_serializeAlone {i : Instr} {k : List Byte} (s : State) (hb : bodyOf i = serializeAlone k)
    (hi : i = .cmdActive ∨ i = .cmdQmode ∨ i = .cmdQreq) (hk : k ∈ [cmdActiveBytes, cmdQmodeBytes, cmdQreqBytes]) :
    Effect s i (bodyOf i s) := by
  obtain ⟨n, r, heq⟩ := serializeAlone_cases k s
  rw [hb, heq]
  exact .command n r hi hk

/-- Every instruction that is accepted has the effect of its kind. -/
theorem effect_bodyOf (i : Instr) {s : State} (h : s.fillLegal) : Effect s i (bodyOf i s) := by
  cases i with
  | setact => exact .of_modeCommand s rfl (by simp) (k := cmdActiveBytes) (by simp)
  | setqry => exact .of_modeCommand s rfl (by simp) (k := cmdQmodeBytes) (by simp)
  | stopact => exact .of_modeCommand s rfl (by simp) (k := cmdQmodeBytes) (by simp)
  | poll =>
    obtain ⟨b, v, n, r, heq, hv, hr⟩ := pollBody_frame h
    rw [bodyOf, heq]
    exact .poll b n hv hr
  | query =>
    obtain ⟨q, c, f, w, v, m, r, heq, ⟨n, rfl⟩, hr, hq⟩ := queryBody_cases s
    rw [bodyOf, heq]
    exact .query c f n v m hr hq
  | reserved000 | reserved101 | reserved110 | reserved111 => exact .reserved (by simp)
  | cmdActive => exact .of_serializeAlone s rfl (by simp) (k := cmdActiveBytes) (by simp)
  | cmdQmode => exact .of_serializeAlone s rfl (by simp) (k := cmdQmodeBytes) (by simp)
  | cmdQreq => exact .of_serializeAlone s rfl (by simp) (k := cmdQreqBytes) (by simp)
  | activeFrame => exact .frame _ (.inl rfl)
  | queryResponse => exact .frame _ (.inr rfl)

/-- What an instruction that answers a next state has done. -/
theorem effect_of_exec {i : Instr} {s t : State} (h : exec i s = .next t) : s.ready ∧ Effect s i t := by
  obtain ⟨⟨hlive, hfill⟩, rfl⟩ := exec_eq_next.mp h
  exact ⟨⟨hlive, hfill⟩, effect_bodyOf i hfill⟩

/-- Settles O47: the fields that each kind of effect writes. -/
theorem accessTableFrames : Obligations.AccessTableFrames := by
  unfold Obligations.AccessTableFrames
  intro i s t h
  obtain ⟨-, heffect⟩ := effect_of_exec h
  cases heffect with
  | mode n hi hk hr => obtain rfl | rfl | rfl := hi <;> simp [Instr.port]
  | poll b n hv hr => simp [Instr.port]
  | query c f n v m hr hq => simp [Instr.port]
  | reserved hi => obtain rfl | rfl | rfl | rfl := hi <;> simp [Instr.port]
  | command n r hi hk => obtain rfl | rfl | rfl := hi <;> simp [Instr.port]
  | frame r hi => obtain hi | hi := hi <;> simp [hi]

/-- Settles O48: the outcome that each kind of effect returns. -/
theorem oneOutcomeOfItsOwn : Obligations.OneOutcomeOfItsOwn := by
  unfold Obligations.OneOutcomeOfItsOwn
  intro i s t hport h
  obtain ⟨-, heffect⟩ := effect_of_exec h
  cases heffect with
  | mode n hi hk hr => exact ⟨_, rfl, hr⟩
  | poll b n hv hr => exact ⟨_, rfl, hr⟩
  | query c f n v m hr hq => exact ⟨_, rfl, hr⟩
  | reserved hi => exact ⟨.reject, rfl, by obtain rfl | rfl | rfl | rfl := hi <;> rfl⟩
  | command n r hi hk => obtain rfl | rfl | rfl := hi <;> cases hport
  | frame r hi => obtain hi | hi := hi <;> rw [hi] at hport <;> cases hport

/-- No instruction leaves the block unready (rules R113 to R115). -/
theorem Effect.keeps_ready {i : Instr} {s t : State} (h : s.ready) (he : Effect s i t) : t.ready := by
  obtain ⟨hlive, hfill⟩ := h
  cases he with
  | mode => exact ⟨hlive, Nat.zero_le _⟩
  | poll b n hv hr => exact ⟨hlive, hv⟩
  | query | reserved | command | frame => exact ⟨hlive, hfill⟩

/-- Settles O49: the state that an instruction leaves is ready, and a ready state runs every instruction. -/
theorem noOutcomeIsFatal : Obligations.NoOutcomeIsFatal := by
  unfold Obligations.NoOutcomeIsFatal
  intro i j s t h
  obtain ⟨hready, heffect⟩ := effect_of_exec h
  exact ⟨_, exec_of_ready j (heffect.keeps_ready hready)⟩

/-- Settles O16: the two tests of acceptance, in their order. -/
theorem operationsStopWhenNotReady : Obligations.OperationsStopWhenNotReady := by
  unfold Obligations.OperationsStopWhenNotReady
  intro i s
  rw [exec_eq_accept]
  exact ⟨accept_of_not_live, accept_of_fill⟩

/-- Settles O17: `exec_eq_next`, read for the existence of a next state. -/
theorem readyStatesRunEveryInstruction : Obligations.ReadyStatesRunEveryInstruction := by
  unfold Obligations.ReadyStatesRunEveryInstruction
  intro i s
  constructor
  · rintro ⟨t, h⟩
    obtain ⟨hready, -⟩ := exec_eq_next.mp h
    exact hready
  · exact fun hready => ⟨_, exec_of_ready i hready⟩

/-- An instruction whose body is the command frame `k` on its own, in a ready state (rule R90; log entry 5). -/
theorem exec_of_serializeAlone {i : Instr} {k : List Byte} (hi : bodyOf i = serializeAlone k) {s : State}
    (h : s.ready) :
    (s.draws.txWriteFails = none → exec i s = .next ((s.send k).setUnitResult none)) ∧
    (∀ n, s.draws.txWriteFails = some n →
      exec i s = .next ((s.send (k.take n)).setUnitResult (some .ioError))) := by
  rw [exec_of_ready i h, hi]
  exact ⟨fun hw => by rw [serializeAlone_of_write_ok k hw], fun n hw => by rw [serializeAlone_of_write_failed k hw]⟩

/-- Settles O21: `exec_of_serializeAlone` at each of the three command frames. -/
theorem serializerSendsCommandFrames : Obligations.SerializerSendsCommandFrames := by
  unfold Obligations.SerializerSendsCommandFrames
  intro s i k hik hlive hfill
  have hbody : bodyOf i = serializeAlone k := by
    simp only [List.mem_cons, Prod.mk.injEq, List.not_mem_nil, or_false] at hik
    obtain ⟨rfl, rfl⟩ | ⟨rfl, rfl⟩ | ⟨rfl, rfl⟩ := hik <;> rfl
  exact exec_of_serializeAlone hbody ⟨hlive, hfill⟩

/-- Settles O22: a reserved op code's body is `rejectBody`. -/
theorem reservedOpCodesReject : Obligations.ReservedOpCodesReject := by
  unfold Obligations.ReservedOpCodesReject
  intro s i hi hlive hfill
  have hbody : bodyOf i = rejectBody := by
    simp only [List.mem_cons, List.not_mem_nil, or_false] at hi
    obtain rfl | rfl | rfl | rfl := hi <;> rfl
  rw [exec_of_ready i ⟨hlive, hfill⟩, hbody]
  rfl

end Sys2Proof.Machine
end

section
/-! PROOFS. One step of a run by its input (rules R37, R129, R142), and construction (rules R130 to R132): one equation
for each input and for each way a construction ends. -/

namespace Sys2Proof.Machine

/-- A request that decodes runs its instruction when the operation has begun (rules R20, R38). -/
theorem step_of_request {s : State} {p : Port} {w : List Byte} {d : Draws} {rest : List Event} {i : Instr}
    (hs : s.inputs = .request p w d :: rest) (hw : decodeOn p w = .ok i) : step s = exec i (s.begin rest d) := by
  rw [step, hs]
  simp only [hw]

/-- A request that does not decode is refused (log entry 12). -/
theorem step_of_undecodable {s : State} {p : Port} {w : List Byte} {d : Draws} {rest : List Event} {e : DecodeError}
    (hs : s.inputs = .request p w d :: rest) (hw : decodeOn p w = .error e) :
    step s = .refused (.undecodable e) := by
  rw [step, hs]
  simp only [hw]

/-- With no input pending the block is idle (rule R129). -/
theorem step_of_idle {s : State} (hs : s.inputs = []) : step s = .next s := by
  rw [step, hs]

/-- The environment's action is one step (rule R37). -/
theorem step_of_env {s : State} {a : EnvAction} {rest : List Event} (hs : s.inputs = .env a :: rest) :
    step s = .next (a.act (s.setInputs rest)) := by
  rw [step, hs]

/-- A construction is one step, from any state (rule R132). -/
theorem step_of_construct {s : State} {path : String} {baud : Nat} {d : Draws} {rest : List Event}
    (hs : s.inputs = .construct path baud d :: rest) : step s = .next (construct path baud (s.begin rest d)) := by
  rw [step, hs]

/-- Settles O9: `step_of_request` and `step_of_undecodable`. -/
theorem stepRunsTheDecodedWord : Obligations.StepRunsTheDecodedWord := by
  unfold Obligations.StepRunsTheDecodedWord
  exact fun s p w d rest hs => ⟨fun i hw => step_of_request hs hw, fun e hw => step_of_undecodable hs hw⟩

/-- A table word that decodes is a word of some interface (log entry 8). -/
theorem tableWord_of_decodeTableWord {nbits w : Nat} {i : Instr} (h : decodeTableWord nbits w = some i) :
    ∃ p bytes, tableWord nbits w = some (p, bytes) ∧ decodeOn p bytes = .ok i := by
  unfold decodeTableWord at h
  split at h
  · cases h
  · rename_i p bytes hword
    refine ⟨p, bytes, hword, ?_⟩
    cases hd : decodeOn p bytes with
    | error e => simp [hd, Except.toOption] at h
    | ok j => simpa [hd, Except.toOption] using h

/-- Settles O10: the placed word is a quiet request, so `step_of_request` runs it. -/
theorem fetchedTableWordRuns : Obligations.FetchedTableWordRuns := by
  unfold Obligations.FetchedTableWordRuns
  intro s nbits w i h
  obtain ⟨p, bytes, hword, hdecode⟩ := tableWord_of_decodeTableWord h
  have hplaced : s.withFetchWord nbits w = s.setInputs (.request p bytes Draws.quiet :: s.inputs) := by
    rw [State.withFetchWord, hword]
  rw [hplaced, step_of_request rfl hdecode]
  rfl

/-- Settles O11: `step_of_idle`. -/
theorem idleBlockKeepsItsState : Obligations.IdleBlockKeepsItsState := by
  unfold Obligations.IdleBlockKeepsItsState
  exact fun _ => step_of_idle

/-- Settles O12: `step_of_env` for each of the four actions. -/
theorem environmentStepsChangeOnlyTheEnvironment : Obligations.EnvironmentStepsChangeOnlyTheEnvironment := by
  unfold Obligations.EnvironmentStepsChangeOnlyTheEnvironment
  exact fun s rest => ⟨fun _ => step_of_env, fun _ => step_of_env, fun _ => step_of_env, fun _ => step_of_env⟩

/-- Every part of a queue, in order, is what some marks keep (rule R37). -/
theorem exists_keepMarked_eq {l q : List Byte} (h : l.Sublist q) : ∃ keep, keepMarked keep q = l := by
  induction h with
  | slnil => exact ⟨[], rfl⟩
  | cons b _ ih =>
    obtain ⟨keep, hkeep⟩ := ih
    exact ⟨false :: keep, hkeep⟩
  | cons_cons b _ ih =>
    obtain ⟨keep, hkeep⟩ := ih
    exact ⟨true :: keep, congrArg (b :: ·) hkeep⟩

/-- Settles O13: what is left is a part of the old queue, which marks keep, and a part of the new bytes, which fits. -/
theorem everyOverflowIsPossible : Obligations.EveryOverflowIsPossible := by
  unfold Obligations.EveryOverflowIsPossible
  intro s bs l hsub hfits
  obtain ⟨old, new, rfl, hold, hnew⟩ := List.sublist_append_iff.mp hsub
  obtain ⟨keep, hkeep⟩ := exists_keepMarked_eq hold
  refine ⟨keep, new, hnew, ?_⟩
  have hroom : new.length ≤ s.params.rxDepth - old.length := by
    rw [List.length_append] at hfits
    omega
  calc (actAll [.rxDrop keep, .rxAppend new] s).rxq
      = keepMarked keep s.rxq ++ new.take (s.params.rxDepth - (keepMarked keep s.rxq).length) := rfl
    _ = old ++ new := by rw [hkeep, List.take_of_length_le hroom]

/-- What a construction does before it opens the channel (rule R130): `FILL` is 0, and both buffers are free. -/
def prepared (path : String) (baud : Nat) (s : State) : State :=
  ((s.setChannel path baud).setFill 0).freeRxbuf.freeQcap

/-- A failed open (rule R131). -/
theorem construct_of_open_failed (path : String) (baud : Nat) {s : State} (ho : s.draws.chanOpenFails = true) :
    construct path baud s = ((prepared path baud s).setLive false).ret .ioError := by
  have hopen : chanOpen path baud (prepared path baud s) = false := congrArg not ho
  exact if_neg (Bool.eq_false_iff.mp hopen)

/-- With the channel open, the flush decides how the construction ends (rules R130, R131). -/
theorem construct_of_open_ok (path : String) (baud : Nat) {s : State} (ho : s.draws.chanOpenFails = false) :
    construct path baud s = (match rxFlush (prepared path baud s) with
      | .failed s => constructionFailed s
      | .ok _ s => (s.setLive true).ret .done) := by
  have hopen : chanOpen path baud (prepared path baud s) = true := congrArg not ho
  exact if_pos hopen

/-- A flush that does not fail empties `RXQ` (rule R34). -/
theorem rxFlush_of_ok {s : State} (hf : s.draws.rxFlushFails = none) : rxFlush s = .ok () (s.setRxq []) := by
  rw [rxFlush, hf]

/-- A flush that fails has discarded the drawn leading part of `RXQ` (rule R36). -/
theorem rxFlush_of_failed {s : State} {k : Nat} (hf : s.draws.rxFlushFails = some k) :
    rxFlush s = .failed (s.setRxq (s.rxq.drop k)) := by
  rw [rxFlush, hf]

/-- A failed flush (rule R131). -/
theorem construct_of_flush_failed (path : String) (baud : Nat) {k : Nat} {s : State}
    (ho : s.draws.chanOpenFails = false) (hf : s.draws.rxFlushFails = some k) :
    construct path baud s =
      (((prepared path baud s).setRxq (s.rxq.drop k)).setLive false).ret .ioError := by
  rw [construct_of_open_ok path baud ho, rxFlush_of_failed (s := prepared path baud s) hf]
  rfl

/-- A construction that succeeds (rule R130). -/
theorem construct_of_flush_ok (path : String) (baud : Nat) {s : State}
    (ho : s.draws.chanOpenFails = false) (hf : s.draws.rxFlushFails = none) :
    construct path baud s = (((prepared path baud s).setRxq []).setLive true).ret .done := by
  rw [construct_of_open_ok path baud ho, rxFlush_of_ok (s := prepared path baud s) hf]

/-- What a construction can do (rules R130, R131): a leading part of `RXQ` is gone, `LIVE` is set or cleared, and one
outcome is returned. -/
theorem construct_cases (path : String) (baud : Nat) (s : State) :
    ∃ n live r, construct path baud s = (((prepared path baud s).setRxq (s.rxq.drop n)).setLive live).ret r := by
  cases ho : s.draws.chanOpenFails with
  | true => exact ⟨0, false, .ioError, construct_of_open_failed path baud ho⟩
  | false =>
    cases hf : s.draws.rxFlushFails with
    | none => exact ⟨s.rxq.length, true, .done, by rw [construct_of_flush_ok path baud ho hf, List.drop_length]⟩
    | some k => exact ⟨k, false, .ioError, construct_of_flush_failed path baud ho hf⟩

/-- Settles O14: the equation of each of the three ways a construction ends. -/
theorem constructionFromAnyState : Obligations.ConstructionFromAnyState := by
  unfold Obligations.ConstructionFromAnyState
  intro s path baud d rest hs
  refine ⟨_, step_of_construct hs, ?_⟩
  cases ho : d.chanOpenFails with
  | true => simp [construct_of_open_failed path baud (s := s.begin rest d) ho, prepared]
  | false =>
    cases hf : d.rxFlushFails with
    | none => simp [construct_of_flush_ok path baud (s := s.begin rest d) ho hf, prepared]
    | some k => simp [construct_of_flush_failed path baud (s := s.begin rest d) ho hf, prepared]

end Sys2Proof.Machine
end

section
/-! PROOFS. What every step keeps (rules R5, R18, R19, R24, R30, R35): the frames of a step by its input, and the
invariant of a state between operations. -/

namespace Sys2Proof.Machine

/-- Only a construction changes `LIVE` or the parameters (rules R5, R19). -/
theorem step_keeps_live_params_or_constructs {s t : State} (h : step s = .next t) :
    (t.live = s.live ∧ t.params = s.params) ∨
    ∃ path baud d rest, s.inputs = .construct path baud d :: rest ∧ t = construct path baud (s.begin rest d) := by
  obtain ⟨-, rfl⟩ | ⟨a, rest, -, rfl⟩ | hconstruct | ⟨p, w, d, rest, i, -, -, hexec⟩ := step_cases h
  · exact .inl ⟨rfl, rfl⟩
  · obtain ⟨q, v, m, hact, -⟩ := act_spec a (s.setInputs rest)
    rw [hact]
    exact .inl ⟨rfl, rfl⟩
  · exact .inr hconstruct
  · obtain ⟨hlive, hparams, -⟩ := accessTableFrames i _ _ hexec
    exact .inl ⟨hlive, hparams⟩

/-- Settles O52: `step_keeps_live_params_or_constructs`, for `LIVE`. -/
theorem onlyConstructionWritesLive : Obligations.OnlyConstructionWritesLive := by
  unfold Obligations.OnlyConstructionWritesLive
  intro s t h hne
  obtain ⟨hlive, -⟩ | ⟨path, baud, d, rest, hs, -⟩ := step_keeps_live_params_or_constructs h
  · exact absurd hlive hne
  · exact ⟨path, baud, d, rest, hs⟩

/-- A construction sets `DEVICE_PATH` and `BAUD`, and keeps the other parameters (rule R130; log entry 2). -/
theorem construct_params (path : String) (baud : Nat) (s : State) :
    (construct path baud s).params = { s.params with devicePath := path, baud := baud } := by
  obtain ⟨n, live, r, hc⟩ := construct_cases path baud s
  rw [hc]
  rfl

/-- Settles O54: the parameters stay, or they are the ones of `construct_params`. -/
theorem parametersAreFixed : Obligations.ParametersAreFixed := by
  unfold Obligations.ParametersAreFixed
  intro s t h
  obtain ⟨-, hparams⟩ | ⟨path, baud, d, rest, hs, rfl⟩ := step_keeps_live_params_or_constructs h
  · rw [hparams]
    exact ⟨rfl, rfl, fun hne => absurd rfl hne⟩
  · rw [construct_params]
    exact ⟨rfl, rfl, fun _ => ⟨path, baud, d, rest, hs, rfl, rfl⟩⟩

/-- What was sent between two states is a leading part of one of the three commands (rules R35, R52). -/
def SendsCommandPart (s t : State) : Prop :=
  ∃ k n, k ∈ [cmdActiveBytes, cmdQmodeBytes, cmdQreqBytes] ∧ t.tx = s.tx ++ k.take n

/-- Nothing sent is an empty part of a command. -/
theorem sendsCommandPart_of_tx_eq {s t : State} (h : t.tx = s.tx) : SendsCommandPart s t :=
  ⟨cmdActiveBytes, 0, by simp, by simp [h]⟩

/-- Every instruction sends at most a part of a command (rules R52, R90). -/
theorem Effect.sendsCommandPart {i : Instr} {s t : State} (h : Effect s i t) : SendsCommandPart s t := by
  cases h with
  | mode n hi hk hr => exact ⟨_, n, hk, rfl⟩
  | command n r hi hk => exact ⟨_, n, hk, rfl⟩
  | query c f n v m hr hq => exact ⟨cmdQreqBytes, n, by simp, rfl⟩
  | poll | reserved | frame => exact sendsCommandPart_of_tx_eq rfl

/-- Settles O53: only an instruction sends, and what it sends is `Effect.sendsCommandPart`. -/
theorem onlyCommandFramesAreSent : Obligations.OnlyCommandFramesAreSent := by
  unfold Obligations.OnlyCommandFramesAreSent
  intro s t h
  change SendsCommandPart s t
  obtain ⟨-, rfl⟩ | ⟨a, rest, -, rfl⟩ | ⟨path, baud, d, rest, -, rfl⟩ | ⟨p, w, d, rest, i, -, -, hexec⟩ := step_cases h
  · exact sendsCommandPart_of_tx_eq rfl
  · obtain ⟨q, v, m, hact, -⟩ := act_spec a (s.setInputs rest)
    exact sendsCommandPart_of_tx_eq (by rw [hact]; rfl)
  · obtain ⟨n, live, r, hc⟩ := construct_cases path baud (s.begin rest d)
    exact sendsCommandPart_of_tx_eq (by rw [hc]; rfl)
  · obtain ⟨-, heffect⟩ := effect_of_exec hexec
    exact heffect.sendsCommandPart

/-- An empty accumulation holds no header (rule R24). -/
theorem headerOnlyFirst_of_fill_zero {s : State} (h : s.fill = 0) : s.headerOnlyFirst := by
  intro i _ hi
  simp [h] at hi

/-- Settles O15: the values by evaluation, the invariant by the empty accumulation and the empty channel. -/
theorem resetValuesAndInvariant : Obligations.ResetValuesAndInvariant := by
  unfold Obligations.ResetValuesAndInvariant
  exact ⟨rfl, rfl, rfl, ⟨rfl, Nat.zero_le _⟩, Nat.zero_le _, headerOnlyFirst_of_fill_zero rfl, Nat.zero_le _⟩

/-- A byte that `POLL` takes keeps the accumulation's only header at its first place: a header restarts the
accumulation, any other byte goes to its end (rules R24, R79). -/
theorem takeByte_keeps_headerOnlyFirst (b : Byte) {s : State} (hf : s.fillLegal) (hh : s.headerOnlyFirst) :
    (takeByte b s).headerOnlyFirst := by
  obtain ⟨i, v, q, r, ht, -, hi, hcase⟩ := takeByte_cases b hf
  rw [ht]
  obtain ⟨hv, -, -⟩ | ⟨rfl, -, -⟩ := hcase
  · intro j hj hjv
    change j.val < v.toNat at hjv
    change (s.rxbuf.setIfInBounds i b)[j.val] ≠ 0xFE
    rw [Vector.getElem_setIfInBounds]
    by_cases hb : b = 0xFE
    · rw [if_pos hb] at hi
      omega
    · rw [if_neg hb] at hi
      split
      · exact hb
      · exact hh j hj (by omega)
  · exact headerOnlyFirst_of_fill_zero rfl

/-- `POLL` keeps the accumulation's only header at its first place (rule R24). -/
theorem pollBody_keeps_headerOnlyFirst {s : State} (hf : s.fillLegal) (hh : s.headerOnlyFirst) :
    (pollBody s).headerOnlyFirst := by
  obtain ⟨n, r, hp, -⟩ | ⟨b, q, -, hp⟩ := pollBody_cases s
  · rw [hp]
    exact hh
  · rw [hp]
    exact takeByte_keeps_headerOnlyFirst b (s := s.setRxq q) hf hh

/-- Every instruction keeps `RXQ` within its capacity (rule R30). -/
theorem Effect.keeps_rxqFits {i : Instr} {s t : State} (h : Effect s i t) (hq : s.rxqFits) : t.rxqFits := by
  cases h with
  | poll b n hv hr => exact (List.drop_sublist n s.rxq).length_le.trans hq
  | query c f n v m hr hlen => exact hlen hq
  | mode | reserved | command | frame => exact hq

/-- Every instruction keeps the accumulation's only header at its first place: `POLL` is the only one that adds to
it (rule R24). -/
theorem bodyOf_keeps_headerOnlyFirst (i : Instr) {s : State} (hf : s.fillLegal) (hh : s.headerOnlyFirst) :
    (bodyOf i s).headerOnlyFirst := by
  have heffect := effect_bodyOf i hf
  generalize ht : bodyOf i s = t at heffect ⊢
  cases heffect with
  | poll =>
    rw [← ht]
    exact pollBody_keeps_headerOnlyFirst hf hh
  | mode => exact headerOnlyFirst_of_fill_zero rfl
  | query | reserved | command | frame => exact hh

/-- An instruction that answers a next state keeps the invariant (rules R18, R24, R30). -/
theorem exec_keeps_inv {i : Instr} {s t : State} (hinv : s.Inv) (h : exec i s = .next t) : t.Inv := by
  obtain ⟨hfill, hheader, hfits⟩ := hinv
  obtain ⟨hready, heffect⟩ := effect_of_exec h
  obtain ⟨-, hfill'⟩ := heffect.keeps_ready hready
  obtain ⟨-, rfl⟩ := exec_eq_next.mp h
  exact ⟨hfill', bodyOf_keeps_headerOnlyFirst i hfill hheader, heffect.keeps_rxqFits hfits⟩

/-- A construction establishes an empty accumulation and keeps `RXQ` within its capacity (rules R27, R130). -/
theorem construct_inv (path : String) (baud : Nat) {s : State} (hq : s.rxqFits) : (construct path baud s).Inv := by
  obtain ⟨n, live, r, hc⟩ := construct_cases path baud s
  rw [hc]
  exact ⟨Nat.zero_le _, headerOnlyFirst_of_fill_zero rfl, (List.drop_sublist n s.rxq).length_le.trans hq⟩

/-- Settles O50: by the input of the step. -/
theorem everyStepKeepsTheInvariant : Obligations.EveryStepKeepsTheInvariant := by
  unfold Obligations.EveryStepKeepsTheInvariant
  intro s t hinv h
  obtain ⟨hfill, hheader, hfits⟩ := hinv
  obtain ⟨-, rfl⟩ | ⟨a, rest, -, rfl⟩ | ⟨path, baud, d, rest, -, rfl⟩ | ⟨p, w, d, rest, i, -, -, hexec⟩ := step_cases h
  · exact ⟨hfill, hheader, hfits⟩
  · obtain ⟨q, v, m, hact, hq⟩ := act_spec a (s.setInputs rest)
    rw [hact]
    exact ⟨hfill, hheader, hq hfits⟩
  · exact construct_inv path baud (s := s.begin rest d) hfits
  · exact exec_keeps_inv (s := s.begin rest d) ⟨hfill, hheader, hfits⟩ hexec

end Sys2Proof.Machine
end

section
/-! PROOFS. The validators and the decoders (rules R62 to R72): a frame's checksum is the sum of its window in the ring
of bytes, so one changed byte of the window changes the sum by the difference, and a byte outside it by nothing. -/

namespace Sys2Proof.Machine

/-- A frame is valid when it passes both tests (rule R66). -/
theorem validateActive_eq_valid (f : Frame) :
    validateActive f = .valid ↔ f[0] = 0xFE ∧ csumOkActive f = true := by
  rw [← hdrOk_iff]
  cases hh : hdrOk f[0] <;> cases hc : csumOkActive f <;> simp [validateActive, hh, hc]

/-- A response is valid when it passes both tests (rule R67). -/
theorem validateQuery_eq_valid (w : QWinLo) (q : Response) :
    validateQuery w q = .valid ↔ q[0] = 0xFE ∧ csumOkQuery w q = true := by
  rw [← hdrOk_iff]
  cases hh : hdrOk q[0] <;> cases hc : csumOkQuery w q <;> simp [validateQuery, hh, hc]

/-- A validator that does not accept answers `ChecksumError` (rules R66, R67). -/
theorem verdict_ne_valid {v : Verdict} : v ≠ .valid ↔ v = .checksumError := by
  cases v <;> simp

/-- Settles O23: the header test and `csumOkActive_iff`. -/
theorem activeValidatorRule : Obligations.ActiveValidatorRule := by
  unfold Obligations.ActiveValidatorRule
  intro f
  rw [validateActive_eq_valid, csumOkActive_iff]

/-- Settles O24: the header test and `csumOkQuery_iff`, for each window. -/
theorem queryValidatorRule : Obligations.QueryValidatorRule := by
  unfold Obligations.QueryValidatorRule
  intro q
  rw [validateQuery_eq_valid, validateQuery_eq_valid, csumOkQuery_iff, csumOkQuery_iff]
  exact ⟨Iff.rfl, Iff.rfl⟩

/-- The answer for a frame is its reading exactly when the frame is valid (rules R66, R69). -/
theorem activeAnswer_eq_ite (f : Frame) (a : Bool) :
    activeAnswer f a = if validateActive f = .valid then decodeActive f a else .checksumError := by
  cases hv : validateActive f <;> simp [activeAnswer, hv]

/-- The answer for a response is its reading exactly when the response is valid (rules R67, R70). -/
theorem queryAnswer_eq_ite (w : QWinLo) (q : Response) (a : Bool) :
    queryAnswer w q a = if validateQuery w q = .valid then decodeQuery q a else .checksumError := by
  cases hv : validateQuery w q <;> simp [queryAnswer, hv]

/-- The test of an active frame on its fields (rules R46, R66). -/
theorem validateActive_layout (hdr status byte2 : Byte) (co2 ch2o tvoc : Half) (csum byte10 : Byte) :
    validateActive (activeLayout hdr status byte2 co2 ch2o tvoc csum byte10) = .valid ↔
      hdr = 0xFE ∧ (co2.toNat / 256 + co2.toNat % 256 + ch2o.toNat / 256 + ch2o.toNat % 256 +
        tvoc.toNat / 256 + tvoc.toNat % 256) % 256 = csum.toNat := by
  rw [activeValidatorRule]
  simp [activeLayout, toNat_hi8, toNat_lo8]

/-- The reading of an active frame on its fields (rules R46, R69). -/
theorem decodeActive_layout (hdr status byte2 : Byte) (co2 ch2o tvoc : Half) (csum byte10 : Byte) (a : Bool) :
    decodeActive (activeLayout hdr status byte2 co2 ch2o tvoc csum byte10) a =
      .readingActive { status := status, co2 := co2, ch2o := ch2o, tvocRaw := tvoc, alarm := a } := by
  simp [decodeActive, activeLayout]

/-- Settles O25: `activeAnswer_eq_ite`, with the test and the reading on the fields. -/
theorem activeFrameIsValidatedAndDecoded : Obligations.ActiveFrameIsValidatedAndDecoded := by
  unfold Obligations.ActiveFrameIsValidatedAndDecoded
  intro s hdr status byte2 co2 ch2o tvoc csum byte10 hlive hfill
  rw [exec_of_ready _ ⟨hlive, hfill⟩, bodyOf, validateActiveAlone, alarmSample, activeAnswer_eq_ite,
    decodeActive_layout]
  simp only [validateActive_layout]
  rfl

/-- The test of a query response on its fields (rules R47, R67). -/
theorem validateQuery_layout (w : QWinLo) (hdr byte1 byte2 byte3 byte4 : Byte) (tvoc raw2 : Half) (csum : Byte) :
    validateQuery w (responseLayout hdr byte1 byte2 byte3 byte4 tvoc raw2 csum) = .valid ↔
      hdr = 0xFE ∧ (match w with
        | .one => byte1.toNat + byte2.toNat + byte3.toNat + byte4.toNat + tvoc.toNat / 256 + tvoc.toNat % 256 +
            raw2.toNat / 256
        | .two => byte2.toNat + byte3.toNat + byte4.toNat + tvoc.toNat / 256 + tvoc.toNat % 256 +
            raw2.toNat / 256 + raw2.toNat % 256) % 256 = csum.toNat := by
  rw [validateQuery_eq_valid, csumOkQuery_iff]
  cases w <;> simp [responseLayout, toNat_hi8, toNat_lo8]

/-- The reading of a query response on its fields (rules R47, R70). -/
theorem decodeQuery_layout (hdr byte1 byte2 byte3 byte4 : Byte) (tvoc raw2 : Half) (csum : Byte) (a : Bool) :
    decodeQuery (responseLayout hdr byte1 byte2 byte3 byte4 tvoc raw2 csum) a =
      .readingQuery { tvocRaw := tvoc, raw2 := raw2, alarm := a } := by
  simp [decodeQuery, responseLayout]

/-- Settles O26: `queryAnswer_eq_ite`, with the test and the reading on the fields; byte 10 is not read. -/
theorem queryResponseIsValidatedAndDecoded : Obligations.QueryResponseIsValidatedAndDecoded := by
  unfold Obligations.QueryResponseIsValidatedAndDecoded
  intro s hdr byte1 byte2 byte3 byte4 tvoc raw2 csum byte10 hlive hfill
  rw [exec_of_ready _ ⟨hlive, hfill⟩, bodyOf, validateQueryAlone, alarmSample, queryAnswer_eq_ite,
    decodeQuery_layout]
  simp only [validateQuery_layout]
  rfl

/-! ## Changed bytes -/

/-- The checksum is the sum of the bytes in the ring of bytes (rule R62). -/
theorem sum8_eq_sum (l : List Byte) : sum8 l = l.sum := by
  induction l with
  | nil => rfl
  | cons b l ih =>
    apply BitVec.eq_of_toNat_eq
    have hl : l.sum.toNat = (l.map BitVec.toNat).sum % 256 := by rw [← ih, toNat_sum8]
    rw [toNat_sum8, List.sum_cons, BitVec.toNat_add, hl, List.map_cons, List.sum_cons]
    simp

/-- A change outside a window leaves the window alone. -/
theorem slice_set_outside (l : List Byte) {a z j : Nat} (b : Byte) (h : j < a ∨ z < j) :
    slice (l.set j b) a z = slice l a z := by
  simp only [slice]
  obtain h | h := h
  · rw [List.drop_set_of_lt h]
  · by_cases hja : j < a
    · rw [List.drop_set_of_lt hja]
    · rw [List.drop_set, if_neg hja, List.take_set_of_le (by omega)]

/-- A change inside a window changes its sum by the difference of the bytes (rule R72). -/
theorem sum8_slice_set_inside (l : List Byte) {a z j : Nat} (b : Byte) (ha : a ≤ j) (hz : j ≤ z) (hj : j < l.length) :
    sum8 (slice (l.set j b) a z) = sum8 (slice l a z) - l[j] + b := by
  have hlt : j - a < (slice l a z).length := by simp [slice]; omega
  have hget : (slice l a z)[j - a] = l[j] := by simp [slice, ha]
  have hset : slice (l.set j b) a z = (slice l a z).set (j - a) b := by
    simp only [slice]
    rw [List.drop_set, if_neg (by omega), List.take_set]
  rw [hset, sum8_eq_sum, sum8_eq_sum, List.sum_set', dif_pos hlt, hget]
  ring

/-- The checksum test of a frame on the window `a..z`: its bytes sum to byte 9 (rules R63, R67). -/
def WindowOk {n : Nat} (hn : 9 < n) (a z : Nat) (v : Vector Byte n) : Prop := sum8 (slice v.toList a z) = v[9]

/-- An active frame is tested on the window 3..8 (rule R63). -/
theorem validateActive_iff_windowOk (f : Frame) :
    validateActive f = .valid ↔ f[0] = 0xFE ∧ WindowOk (by decide) 3 8 f := by
  rw [validateActive_eq_valid, csumOkActive, beq_iff_eq]
  rfl

/-- A query response is tested on the window that `QWIN_LO` selects (rules R67, R68). -/
theorem validateQuery_iff_windowOk (w : QWinLo) (q : Response) :
    validateQuery w q = .valid ↔ q[0] = 0xFE ∧ WindowOk (by decide) w.toNat (w.toNat + 6) q := by
  rw [validateQuery_eq_valid, csumOkQuery, beq_iff_eq]
  rfl

section

variable {n : Nat} {hn : 9 < n} {a z : Nat} {v : Vector Byte n}

/-- The sum of a window after a change inside it (rule R72). -/
theorem window_sum_set_inside {j : Nat} (b : Byte) (ha : a ≤ j) (hz : j ≤ z) (hj : j < n) :
    sum8 (slice (v.set j b).toList a z) = sum8 (slice v.toList a z) - v[j] + b := by
  rw [Vector.toList_set, sum8_slice_set_inside _ b ha hz (by simpa using hj), Vector.getElem_toList]

/-- One changed byte inside the window is detected (rule R72). -/
theorem not_windowOk_set_inside {j : Nat} {b : Byte} (hok : WindowOk hn a z v) (ha : a ≤ j) (hz : j ≤ z) (h9 : z < 9)
    (hb : b ≠ v[j]) : ¬ WindowOk hn a z (v.set j b) := by
  unfold WindowOk at *
  rw [window_sum_set_inside b ha hz (by omega), Vector.getElem_set_ne _ _ (by omega), hok]
  intro hsum
  have hsub : v[9] - v[j] + b - (v[9] - v[j]) = v[9] - (v[9] - v[j]) := by rw [hsum]
  exact hb (by simpa using hsub)

/-- A changed checksum byte is detected (rule R72). -/
theorem not_windowOk_set_csum {b : Byte} (hok : WindowOk hn a z v) (h9 : z < 9) (hb : b ≠ v[9]) :
    ¬ WindowOk hn a z (v.set 9 b) := by
  unfold WindowOk at *
  rw [Vector.toList_set, slice_set_outside _ b (.inr h9), hok, Vector.getElem_set_self]
  exact hb.symm

/-- One changed byte that is neither in the window nor the checksum is not detected (rule R72). -/
theorem windowOk_set_outside {j : Nat} {b : Byte} (hok : WindowOk hn a z v) (hj : j < n) (hout : j < a ∨ z < j)
    (h9 : j ≠ 9) : WindowOk hn a z (v.set j b) := by
  unfold WindowOk at *
  rw [Vector.toList_set, slice_set_outside _ b hout, hok, Vector.getElem_set_ne _ _ h9]

/-- Two changes inside the window that cancel are not detected (rule R72). -/
theorem windowOk_set_pair {i j : Nat} {b c : Byte} (hok : WindowOk hn a z v) (ha : a ≤ i) (hij : i < j) (hz : j ≤ z)
    (h9 : z < 9) (hbc : b + c = v[i] + v[j]) : WindowOk hn a z ((v.set i b).set j c) := by
  unfold WindowOk at *
  rw [window_sum_set_inside c (by omega) hz (by omega), window_sum_set_inside b ha (by omega) (by omega), hok,
    Vector.getElem_set_ne _ _ (by omega), Vector.getElem_set_ne _ _ (by omega), Vector.getElem_set_ne _ _ (by omega)]
  calc v[9] - v[i] + b - v[j] + c
      = v[9] - (v[i] + v[j]) + (b + c) := by ring
    _ = v[9] := by rw [hbc, sub_add_cancel]

end

/-- Settles O27: a change at 1 or beyond leaves the header, and the window's lemmas decide the checksum. -/
theorem activeSingleByteErrors : Obligations.ActiveSingleByteErrors := by
  unfold Obligations.ActiveSingleByteErrors
  intro f hvalid
  obtain ⟨hhdr, hok⟩ := (validateActive_iff_windowOk f).mp hvalid
  refine ⟨fun j b hb => ⟨fun h3 h9 => ?detected, fun hout => ?undetected⟩, fun i j b c hi hij hj hbc => ?cancelling⟩
  case detected =>
    rw [← verdict_ne_valid, Ne, validateActive_iff_windowOk]
    rintro ⟨-, hok'⟩
    obtain hj | hj : j.val ≤ 8 ∨ j = 9 := by omega
    · exact not_windowOk_set_inside hok h3 hj (by decide) hb hok'
    · subst hj
      exact not_windowOk_set_csum hok (by decide) hb hok'
  case undetected =>
    rw [validateActive_iff_windowOk, Vector.getElem_set_ne _ _ (by omega)]
    exact ⟨hhdr, windowOk_set_outside hok j.isLt (by omega) (by omega)⟩
  case cancelling =>
    rw [validateActive_iff_windowOk, Vector.getElem_set_ne _ _ (by omega), Vector.getElem_set_ne _ _ (by omega)]
    exact ⟨hhdr, windowOk_set_pair hok hi hij hj (by decide) hbc⟩

/-- Either query window lies between the header and the checksum byte (rule R68). -/
theorem queryWindow_bounds (w : QWinLo) : 1 ≤ w.toNat ∧ w.toNat + 6 < 9 := by
  cases w <;> decide

/-- Settles O28: as for active frames, with the window that `QWIN_LO` selects. -/
theorem querySingleByteErrors : Obligations.QuerySingleByteErrors := by
  unfold Obligations.QuerySingleByteErrors
  intro w q hvalid j b hb
  obtain ⟨hhdr, hok⟩ := (validateQuery_iff_windowOk w q).mp hvalid
  obtain ⟨-, h9⟩ := queryWindow_bounds w
  refine ⟨fun hin => ?detected, fun h1 h8 hout => ?undetected⟩
  case detected =>
    rw [← verdict_ne_valid, Ne, validateQuery_iff_windowOk]
    rintro ⟨-, hok'⟩
    obtain ⟨hlo, hhi⟩ | hj : (w.toNat ≤ j.val ∧ j.val ≤ w.toNat + 6) ∨ j = 9 := by omega
    · exact not_windowOk_set_inside hok hlo hhi h9 hb hok'
    · subst hj
      exact not_windowOk_set_csum hok h9 hb hok'
  case undetected =>
    rw [validateQuery_iff_windowOk, Vector.getElem_set_ne _ _ (by omega)]
    exact ⟨hhdr, windowOk_set_outside hok j.isLt (by omega) (by omega)⟩

end Sys2Proof.Machine
end

section
/-! PROOFS. The frame synchronizer over one `POLL` (rules R77 to R85): an equation for each way it uses the byte it
takes, and the obligations about one `POLL`. -/

namespace Sys2Proof.Machine

/-- A header that `POLL` takes restarts the accumulation, whatever `FILL` held (rules R79, R80, R85). -/
theorem takeByte_header (s : State) :
    takeByte 0xFE s = ((s.storeRx 0 0xFE).setFill 1).ret .noData := by
  rw [takeByte, storeWithResync_hdr]
  rfl

/-- A byte that is no header and completes no frame goes to the end of the accumulation (rules R79, R80, R85). -/
theorem takeByte_of_fill_lt {b : Byte} {s : State} (hb : b ≠ 0xFE) (hf : s.fill.toNat < 10) :
    takeByte b s = ((s.storeRx s.fill.toNat b).setFill (s.fill + 1)).ret .noData := by
  have hadv : advance (storeWithResync b s) = (s.storeRx s.fill.toNat b).setFill (s.fill + 1) := by
    rw [storeWithResync_ne hb]
    rfl
  have hle : (s.fill + 1).toNat ≤ 10 := by
    rw [toNat_fill_succ hf.le]
    omega
  rw [takeByte, hadv]
  exact if_pos hle

/-- A valid completion whose flush does not fail (rule R84). -/
theorem completeFrame_of_valid {s : State} (hv : validateActive s.rxbuf = .valid) (hk : s.draws.rxFlushFails = none) :
    completeFrame s = ((s.setFill 0).setRxq []).ret (decodeActive s.rxbuf s.alarm) := by
  simp [completeFrame, rxFlush, alarmSample, hv, hk]

/-- Settles O30: `takeByte_of_fill_lt` on the head byte. -/
theorem pollStoresAtFill : Obligations.PollStoresAtFill := by
  unfold Obligations.PollStoresAtFill
  intro s b q hlive hfill ha hp hq hb
  rw [exec_poll_of_ready ⟨hlive, hfill.le⟩, pollBody_of_byte ha hp hq, takeByte_of_fill_lt (s := s.setRxq q) hb hfill]
  rfl

/-- Settles O31: `takeByte_header` on the head byte. -/
theorem pollResyncsOnHeader : Obligations.PollResyncsOnHeader := by
  unfold Obligations.PollResyncsOnHeader
  intro s q hlive hfill ha hp hq
  rw [exec_poll_of_ready ⟨hlive, hfill⟩, pollBody_of_byte ha hp hq, takeByte_header]
  rfl

/-- The byte that completes a frame, in a state where `POLL` can take it (rules R78, R81). -/
theorem exec_poll_of_fill_ten {s : State} {b : Byte} {q : List Byte} (hlive : s.live = true) (hf : s.fill = 10)
    (ha : s.draws.rxAvailFails = false) (hp : s.draws.rxPopFails = none) (hq : s.rxq = b :: q) (hb : b ≠ 0xFE) :
    exec .poll s = .next (completeFrame (((s.setRxq q).storeRx 10 b).setFill 11)) := by
  have hfill : s.fill.toNat ≤ 10 := by rw [hf]; decide
  rw [exec_poll_of_ready ⟨hlive, hfill⟩, pollBody_of_byte ha hp hq, takeByte_of_fill_ten (s := s.setRxq q) hb hf]

/-- Settles O32: the completed frame is not valid by `activeValidatorRule`, so it is not flushed. -/
theorem pollReportsBadFrame : Obligations.PollReportsBadFrame := by
  unfold Obligations.PollReportsBadFrame
  intro s b q f hlive hf ha hp hq hb hframe hbad
  have hinvalid : validateActive f = .checksumError := by
    rw [← verdict_ne_valid, Ne, activeValidatorRule f]
    rintro ⟨hhdr, hsum⟩
    exact hbad.elim (· hhdr) (· hsum)
  subst hframe
  rw [exec_poll_of_fill_ten hlive hf ha hp hq hb,
    completeFrame_of_checksumError (s := ((s.setRxq q).storeRx 10 b).setFill 11) hinvalid]
  rfl

/-- Settles O33: the completed frame is valid by `activeValidatorRule`; the flush decides what is returned. -/
theorem pollReturnsReading : Obligations.PollReturnsReading := by
  unfold Obligations.PollReturnsReading
  intro s b q f hlive hf ha hp hq hb hframe hhdr hsum
  have hvalid : validateActive f = .valid := (activeValidatorRule f).mpr ⟨hhdr, hsum⟩
  subst hframe
  rw [exec_poll_of_fill_ten hlive hf ha hp hq hb]
  refine ⟨fun hk => ?flushed, fun k hk => ?failed⟩
  case flushed =>
    rw [completeFrame_of_valid (s := ((s.setRxq q).storeRx 10 b).setFill 11) hvalid hk]
    rfl
  case failed =>
    rw [completeFrame_of_flush_failed (s := ((s.setRxq q).storeRx 10 b).setFill 11) hvalid hk]
    rfl

/-- Settles O35: `POLL` loses a leading part of `RXQ`, or takes the head byte, which goes to one index. -/
theorem pollWritesOneBufferByte : Obligations.PollWritesOneBufferByte := by
  unfold Obligations.PollWritesOneBufferByte
  intro s t h
  obtain ⟨⟨-, hfill⟩, rfl⟩ := exec_eq_next.mp h
  rw [bodyOf]
  obtain ⟨n, r, hp, -⟩ | ⟨b, q, hq, hp⟩ := pollBody_cases s
  · rw [hp]
    exact ⟨fun _ _ => rfl, n, rfl⟩
  · obtain ⟨i, v, q', r, ht, ⟨n, hn⟩, hi, -⟩ := takeByte_cases b (s := s.setRxq q) hfill
    rw [hp, ht]
    refine ⟨fun j hj => ?_, n + 1, ?_⟩
    · have hij : i ≠ j.val := fun hij => hj b q hq (hij ▸ hi)
      exact Vector.getElem_setIfInBounds_ne j.isLt hij
    · rw [hq, List.drop_succ_cons]
      exact hn

end Sys2Proof.Machine
end

section
/-! PROOFS. Bytes stored one after the other (rules R39, R98): what `storeFrom` leaves, as a list. -/

namespace Sys2Proof.Machine

/-- The bytes stored stand between what they leave before and after them (rule R98). -/
theorem toList_storeFrom (bs : List Byte) (v : Frame) (i : Nat) (h : i + bs.length ≤ 11) :
    (storeFrom v i bs).toList = v.toList.take i ++ bs ++ v.toList.drop (i + bs.length) := by
  induction bs generalizing v i with
  | nil => simp [storeFrom]
  | cons b bs ih =>
    rw [List.length_cons] at h
    have hi : i < v.toList.length := by rw [Vector.length_toList]; omega
    have hbefore : (v.toList.set i b).take (i + 1) = v.toList.take i ++ [b] := by
      rw [List.take_succ_eq_append_getElem (by rwa [List.length_set]), List.getElem_set_self,
        List.take_set_of_le le_rfl]
    have hafter : (v.toList.set i b).drop (i + 1 + bs.length) = v.toList.drop (i + (b :: bs).length) := by
      rw [List.drop_set_of_lt (by omega), List.length_cons, Nat.add_assoc, Nat.add_comm 1]
    rw [storeFrom, ih _ _ (by omega), Vector.toList_setIfInBounds, hbefore, hafter, List.append_assoc _ [b],
      List.singleton_append]

/-- One byte more is stored at the end (rule R98). -/
theorem storeFrom_concat (l : List Byte) (v : Frame) (i : Nat) (b : Byte) :
    storeFrom v i (l ++ [b]) = (storeFrom v i l).setIfInBounds (i + l.length) b := by
  induction l generalizing v i with
  | nil => rfl
  | cons a l ih =>
    rw [List.cons_append, storeFrom, ih, storeFrom, List.length_cons, Nat.add_assoc, Nat.add_comm 1]

/-- Settles O42: `toList_storeFrom` from index 0, read at one index. -/
theorem captureIsInOrder : Obligations.CaptureIsInOrder := by
  unfold Obligations.CaptureIsInOrder
  intro v bs j hlen
  have hbytes : (storeFrom v 0 bs).toList = bs ++ v.toList.drop bs.length := by
    simpa using toList_storeFrom bs v 0 (by omega)
  have hget : (storeFrom v 0 bs)[j] = (bs ++ v.toList.drop bs.length)[j.val]'(by simp; omega) := by
    simp only [← hbytes, Vector.getElem_toList, Fin.getElem_fin]
  rw [hget]
  refine ⟨fun h => ?_, fun h => ?_⟩
  · exact List.getElem_append_left h
  · rw [List.getElem_append_right h]
    simp [Nat.add_sub_cancel' h]

end Sys2Proof.Machine
end

section
/-! PROOFS. The frame synchronizer over repeated `POLL`s (rules R24, R83, R86 to R88). `accumulated s l rest` is the state
after `POLL`s that put the bytes `l` at the start of `RXBUF`; one more byte that is no header adds it to `l`, and the
eleventh completes the frame. -/

namespace Sys2Proof.Machine

/-- One repetition taken from the front. -/
theorem execTimes_of_next {i : Instr} {s t : State} (n : Nat) (h : exec i s = .next t) :
    execTimes i (n + 1) s = execTimes i n t := by
  rw [execTimes, h]

/-- The bytes of a frame from index `k` on stand at its indices `k` and beyond. -/
theorem exists_index_of_mem_drop {f : Frame} {k : Nat} {b : Byte} (h : b ∈ f.toList.drop k) :
    ∃ j : Fin 11, k ≤ j.val ∧ f[j] = b := by
  obtain ⟨i, hi, rfl⟩ := List.mem_iff_getElem.mp h
  have hlt : k + i < 11 := by
    rw [List.length_drop, Vector.length_toList] at hi
    omega
  exact ⟨⟨k + i, hlt⟩, Nat.le_add_right k i, by simp⟩

/-- The byte at an index stands before those beyond it. -/
theorem toList_drop_eq_cons (f : Frame) (j : Fin 11) : f.toList.drop j.val = f[j] :: f.toList.drop (j.val + 1) := by
  rw [List.drop_eq_getElem_cons (by simp), Vector.getElem_toList]
  rfl

/-- Bytes stored from index 0 stand at the start of the buffer. -/
theorem take_toList_storeFrom (v : Frame) {l : List Byte} (h : l.length ≤ 11) :
    (storeFrom v 0 l).toList.take l.length = l := by
  rw [toList_storeFrom l v 0 (by omega)]
  simp

/-- Eleven bytes stored from index 0 fill the buffer. -/
theorem toList_storeFrom_all (v : Frame) {l : List Byte} (h : l.length = 11) : (storeFrom v 0 l).toList = l := by
  conv_rhs => rw [← take_toList_storeFrom v h.le]
  simp [h]

/-- The bytes of a frame stored from index 0 are that frame. -/
theorem storeFrom_toList (v f : Frame) : storeFrom v 0 f.toList = f :=
  Vector.toList_inj.mp (toList_storeFrom_all v f.length_toList)

/-- The state after the bytes `l` were accumulated from index 0, with `rest` still in `RXQ` (rules R24, R79, R80). -/
def accumulated (s : State) (l rest : List Byte) : State :=
  { s with
    rxbuf := storeFrom s.rxbuf 0 l, fill := BitVec.ofNat 4 l.length, rxq := rest,
    outcomes := s.outcomes ++ List.replicate l.length .noData }

/-- The state after the eleven bytes `l` completed a frame (rules R81 to R84). -/
def completed (s : State) (l rest : List Byte) : State :=
  { s with
    rxbuf := storeFrom s.rxbuf 0 l, fill := 0,
    rxq := if activeAnswer (storeFrom s.rxbuf 0 l) s.alarm = .checksumError then rest else [],
    outcomes := s.outcomes ++ List.replicate 10 .noData ++ [activeAnswer (storeFrom s.rxbuf 0 l) s.alarm] }

/-- `FILL` counts the accumulated bytes. -/
theorem accumulated_fill {l : List Byte} (s : State) (rest : List Byte) (hl : l.length ≤ 10) :
    (accumulated s l rest).fill.toNat = l.length := by
  rw [accumulated, BitVec.toNat_ofNat, Nat.mod_eq_of_lt (by omega)]

/-- With `FILL` = 0 nothing is accumulated. -/
theorem accumulated_nil {s : State} (hf : s.fill = 0) : accumulated s [] s.rxq = s := by
  cases s
  subst hf
  simp [accumulated, storeFrom]

/-- With a flush that does not fail, a completion returns the validator's answer, and flushes `RXQ` unless that is
`ChecksumError` (rules R81 to R84). -/
theorem completeFrame_eq_answer {s : State} (hk : s.draws.rxFlushFails = none) :
    completeFrame s =
      ((s.setFill 0).setRxq (if activeAnswer s.rxbuf s.alarm = .checksumError then s.rxq else [])).ret
        (activeAnswer s.rxbuf s.alarm) := by
  cases hv : validateActive s.rxbuf with
  | checksumError =>
    have hanswer : activeAnswer s.rxbuf s.alarm = .checksumError := by simp [activeAnswer, hv]
    rw [completeFrame_of_checksumError hv, hanswer, if_pos rfl]
    rfl
  | valid =>
    have hanswer : activeAnswer s.rxbuf s.alarm = decodeActive s.rxbuf s.alarm := by simp [activeAnswer, hv]
    rw [completeFrame_of_valid hv hk, hanswer, if_neg (by simp [decodeActive])]

section

variable {s : State} (hlive : s.live = true) (hd : s.draws.noFailure)

include hlive hd

/-- A header starts an accumulation, whatever `FILL` held (rules R79, R87). -/
theorem exec_poll_header {rest : List Byte} (hf : s.fillLegal) (hq : s.rxq = 0xFE :: rest) :
    exec .poll s = .next (accumulated s [0xFE] rest) := by
  obtain ⟨ha, hp, -⟩ := hd
  rw [pollResyncsOnHeader s rest hlive hf ha hp hq]
  rfl

/-- A byte that is no header is added to an accumulation that it does not complete (rules R79, R80). -/
theorem exec_poll_accumulated {l rest : List Byte} {b : Byte} (hl : l.length < 10) (hb : b ≠ 0xFE) :
    exec .poll (accumulated s l (b :: rest)) = .next (accumulated s (l ++ [b]) rest) := by
  obtain ⟨ha, hp, -⟩ := hd
  have hfill := accumulated_fill s (b :: rest) hl.le
  rw [pollStoresAtFill (accumulated s l (b :: rest)) b rest hlive (by omega) ha hp rfl hb, hfill]
  simp [accumulated, storeFrom_concat, List.replicate_succ', BitVec.ofNat_add]

/-- Bytes that are no headers are added to an accumulation that they do not complete (rule R24). -/
theorem execTimes_poll_accumulated {bs l rest : List Byte} (hl : l.length + bs.length ≤ 10) (hbs : ∀ b ∈ bs, b ≠ 0xFE) :
    execTimes .poll bs.length (accumulated s l (bs ++ rest)) = .next (accumulated s (l ++ bs) rest) := by
  induction bs generalizing l with
  | nil => simp [execTimes]
  | cons b bs ih =>
    rw [List.length_cons] at hl
    have hfirst : exec .poll (accumulated s l (b :: (bs ++ rest))) = .next (accumulated s (l ++ [b]) (bs ++ rest)) :=
      exec_poll_accumulated hlive hd (by omega) (hbs b (by simp))
    rw [List.length_cons, List.cons_append, execTimes_of_next _ hfirst,
      ih (by rw [List.length_append, List.length_singleton]; omega) fun c hc => hbs c (by simp [hc])]
    simp

/-- A header and the bytes that follow it are accumulated in order (rules R24, R87). -/
theorem execTimes_poll_header {bs rest : List Byte} (hf : s.fillLegal) (hlen : bs.length ≤ 9)
    (hbs : ∀ b ∈ bs, b ≠ 0xFE) (hq : s.rxq = 0xFE :: (bs ++ rest)) :
    execTimes .poll (bs.length + 1) s = .next (accumulated s (0xFE :: bs) rest) := by
  rw [execTimes_of_next _ (exec_poll_header hlive hd hf hq)]
  exact execTimes_poll_accumulated hlive hd (l := [0xFE]) (by rw [List.length_singleton]; omega) hbs

/-- The eleventh byte completes the frame (rules R81 to R84). -/
theorem exec_poll_completes {l rest : List Byte} {b : Byte} (hl : l.length = 10) (hb : b ≠ 0xFE) :
    exec .poll (accumulated s l (b :: rest)) = .next (completed s (l ++ [b]) rest) := by
  obtain ⟨ha, hp, -, hk, -⟩ := hd
  have hten : (accumulated s l (b :: rest)).fill = 10 := by
    rw [accumulated, hl]
    rfl
  have hframe : storeFrom s.rxbuf 0 (l ++ [b]) = (storeFrom s.rxbuf 0 l).setIfInBounds 10 b := by
    rw [storeFrom_concat, hl]
  rw [exec_poll_of_fill_ten (s := accumulated s l (b :: rest)) hlive hten ha hp rfl hb,
    completeFrame_eq_answer (s := (((accumulated s l (b :: rest)).setRxq rest).storeRx 10 b).setFill 11) hk,
    completed, hframe]
  simp [accumulated, hl, State.setRxq, State.storeRx, State.setFill, State.ret]

/-- Bytes that are no headers complete the frame that they fill (rules R83, R87). -/
theorem execTimes_poll_completes {bs l rest : List Byte} {b : Byte} (hl : l.length + bs.length = 10)
    (hbs : ∀ c ∈ bs ++ [b], c ≠ 0xFE) :
    execTimes .poll (bs.length + 1) (accumulated s l (bs ++ b :: rest)) = .next (completed s (l ++ bs ++ [b]) rest) := by
  have hbefore := execTimes_poll_accumulated hlive hd (rest := b :: rest) hl.le fun c hc => hbs c (by simp [hc])
  rw [execTimes_succ hbefore]
  exact exec_poll_completes hlive hd (by rw [List.length_append, hl]) (hbs b (by simp))

/-- A header and ten bytes that are no headers complete the frame of these eleven bytes (rule R87). -/
theorem execTimes_poll_frame {bs rest : List Byte} (hf : s.fillLegal) (hlen : bs.length = 10)
    (hbs : ∀ b ∈ bs, b ≠ 0xFE) (hq : s.rxq = 0xFE :: (bs ++ rest)) :
    execTimes .poll 11 s = .next (completed s (0xFE :: bs) rest) := by
  obtain ⟨init, last, rfl⟩ : ∃ init last, bs = init ++ [last] :=
    ⟨_, _, (List.dropLast_append_getLast (List.ne_nil_of_length_eq_add_one hlen)).symm⟩
  rw [List.length_append, List.length_singleton] at hlen
  rw [List.append_assoc] at hq
  rw [execTimes_of_next 10 (exec_poll_header hlive hd hf hq), ← hlen]
  exact execTimes_poll_completes hlive hd (l := [0xFE]) (by rw [List.length_singleton]; omega) hbs

/-- A byte that completes no frame gives `NoData`, and raises `FILL` by at most one (rules R80, R85). -/
theorem exec_poll_noData {b : Byte} {q : List Byte} (hf : s.fill.toNat < 10) (hq : s.rxq = b :: q) :
    ∃ v f, exec .poll s = .next { s with rxbuf := v, fill := f, rxq := q, outcomes := s.outcomes ++ [.noData] } ∧
      f.toNat ≤ s.fill.toNat + 1 := by
  obtain ⟨ha, hp, -⟩ := hd
  by_cases hb : b = 0xFE
  · subst hb
    exact ⟨_, _, pollResyncsOnHeader s q hlive hf.le ha hp hq, Nat.le_add_left 1 _⟩
  · exact ⟨_, _, pollStoresAtFill s b q hlive hf ha hp hq hb, (toNat_fill_succ hf.le).le⟩

/-- Bytes too few to complete a frame give `NoData` only, whether or not headers are among them (rules R80, R85). -/
theorem execTimes_poll_noData {bs rest : List Byte} (hf : s.fill.toNat + bs.length ≤ 10) (hq : s.rxq = bs ++ rest) :
    ∃ v f, execTimes .poll bs.length s = .next { s with
        rxbuf := v, fill := f, rxq := rest, outcomes := s.outcomes ++ List.replicate bs.length .noData } ∧
      f.toNat ≤ 10 := by
  induction bs generalizing s with
  | nil =>
    rw [List.nil_append] at hq
    exact ⟨s.rxbuf, s.fill, by simp [execTimes, ← hq], hf⟩
  | cons b bs ih =>
    rw [List.length_cons] at hf
    obtain ⟨v, f, hfirst, hle⟩ := exec_poll_noData hlive hd (by omega) hq
    obtain ⟨v', f', hothers, hf'⟩ := ih (s := { s with
        rxbuf := v, fill := f, rxq := bs ++ rest, outcomes := s.outcomes ++ [.noData] }) hlive hd (by
          change f.toNat + bs.length ≤ 10; omega) rfl
    refine ⟨v', f', ?_, hf'⟩
    rw [List.length_cons, execTimes_of_next _ hfirst, List.replicate_succ]
    simpa using hothers

/-- A frame with headers inside: the bytes before its last header complete nothing, and that header starts the
accumulation anew (rule R86). -/
theorem execTimes_poll_inner_header {mid post rest : List Byte} (hf : s.fillLegal) (hlen : mid.length + post.length = 9)
    (hpost : ∀ b ∈ post, b ≠ 0xFE) (hq : s.rxq = 0xFE :: (mid ++ 0xFE :: (post ++ rest))) :
    ∃ v f, execTimes .poll 11 s = .next (accumulated { s with
        rxbuf := v, fill := f, outcomes := s.outcomes ++ List.replicate (mid.length + 1) .noData }
      (0xFE :: post) rest) := by
  have hfirst := exec_poll_header hlive hd hf hq
  obtain ⟨v, f, hmid, hf'⟩ := execTimes_poll_noData (s := accumulated s [0xFE] (mid ++ 0xFE :: (post ++ rest)))
    hlive hd (by rw [accumulated_fill s _ (by simp), List.length_singleton]; omega) rfl
  have hlast := execTimes_poll_header (s := { accumulated s [0xFE] (mid ++ 0xFE :: (post ++ rest)) with
      rxbuf := v, fill := f, rxq := 0xFE :: (post ++ rest),
      outcomes := s.outcomes ++ [.noData] ++ List.replicate mid.length .noData })
    hlive hd hf' (by omega) hpost rfl
  have hpolls : 11 = mid.length + (post.length + 1) + 1 := by omega
  have hout : s.outcomes ++ List.replicate (mid.length + 1) .noData =
      s.outcomes ++ [.noData] ++ List.replicate mid.length .noData := by simp [List.replicate_succ]
  refine ⟨v, f, ?_⟩
  rw [hpolls, execTimes_of_next _ hfirst, execTimes_add _ _ _ _ hmid, hout]
  exact hlast

end

/-- Settles O39: `execTimes_poll_header`, and what stands in the accumulation. -/
theorem accumulationHoldsTheLastBytes : Obligations.AccumulationHoldsTheLastBytes := by
  unfold Obligations.AccumulationHoldsTheLastBytes
  intro s bs rest hlive hf hd hlen hbs hq
  have hcount : (0xFE :: bs).length ≤ 10 := Nat.succ_le_succ hlen
  exact ⟨_, execTimes_poll_header hlive hd hf hlen hbs hq, accumulated_fill s rest hcount,
    take_toList_storeFrom s.rxbuf (hcount.trans (by decide)), rfl, rfl⟩

/-- Settles O36: `execTimes_poll_frame`, whose completed frame is the header and the ten bytes. -/
theorem resyncFrameIsHeaderAndNextTen : Obligations.ResyncFrameIsHeaderAndNextTen := by
  unfold Obligations.ResyncFrameIsHeaderAndNextTen
  intro s bs rest hlive hf hd hlen hbs hq
  exact ⟨_, execTimes_poll_frame hlive hd hf hlen hbs hq, toList_storeFrom_all s.rxbuf (congrArg (· + 1) hlen), rfl,
    rfl, rfl⟩

/-- Settles O37: `execTimes_poll_frame` on the frame's own bytes, whose answer is the reading. -/
theorem elevenPollsReconstructTheFrame : Obligations.ElevenPollsReconstructTheFrame := by
  unfold Obligations.ElevenPollsReconstructTheFrame
  intro s f rest hlive hf hd hq hhdr hother hsum
  have hbytes : f.toList = 0xFE :: f.toList.drop 1 := hhdr ▸ toList_drop_eq_cons f 0
  have hbs : ∀ b ∈ f.toList.drop 1, b ≠ 0xFE := fun b hb => by
    obtain ⟨j, hj, rfl⟩ := exists_index_of_mem_drop hb
    exact hother j hj
  have hvalid : validateActive f = .valid := (activeValidatorRule f).mpr ⟨hhdr, hsum.symm⟩
  have hanswer : activeAnswer f s.alarm = decodeActive f s.alarm := by simp [activeAnswer, hvalid]
  rw [hbytes, List.cons_append] at hq
  rw [execTimes_poll_frame hlive hd hf (by simp) hbs hq, ← hbytes, completed, storeFrom_toList, hanswer,
    if_neg (by simp [decodeActive])]
  rfl

/-- Settles O40: eleven bytes from an empty accumulation complete a frame that fails the header test. -/
theorem headerlessAccumulationIsRejected : Obligations.HeaderlessAccumulationIsRejected := by
  unfold Obligations.HeaderlessAccumulationIsRejected
  intro s f rest hlive hf hd hq hother
  obtain ⟨init, last, hbytes⟩ : ∃ init last, f.toList = init ++ [last] :=
    ⟨_, _, (List.dropLast_append_getLast (List.ne_nil_of_length_eq_add_one f.length_toList)).symm⟩
  have hlen : init.length = 10 := by simpa using congrArg List.length hbytes.symm
  have hbs : ∀ b ∈ init ++ [last], b ≠ 0xFE := fun b hb => by
    obtain ⟨j, -, rfl⟩ := exists_index_of_mem_drop (k := 0) (hbytes ▸ hb)
    exact hother j
  have hanswer : activeAnswer f s.alarm = .checksumError := by
    rw [activeAnswer_eq_ite, if_neg]
    rw [activeValidatorRule]
    exact fun h => hother 0 h.1
  have hpolls := execTimes_poll_completes hlive hd (l := []) (rest := rest) (by simpa using hlen) hbs
  rw [hlen, List.nil_append, ← hbytes, ← List.singleton_append, ← List.append_assoc, ← hbytes, ← hq,
    accumulated_nil hf] at hpolls
  rw [hpolls, completed, storeFrom_toList, hanswer, if_pos rfl]

/-- Settles O38: the bytes before the last header complete no frame, and the accumulation starts at that header. -/
theorem frameWithInnerHeaderIsNotReceived : Obligations.FrameWithInnerHeaderIsNotReceived := by
  unfold Obligations.FrameWithInnerHeaderIsNotReceived
  intro s f rest j hlive hf hd hq hhdr hj hinner hother
  have hdrop : (f.toList.drop 1).drop (j.val - 1) = f.toList.drop j.val := by
    rw [List.drop_drop, Nat.add_sub_cancel' hj]
  have htail : f.toList.drop 1 = (f.toList.drop 1).take (j.val - 1) ++ 0xFE :: f.toList.drop (j.val + 1) := by
    rw [← hinner, ← toList_drop_eq_cons, ← hdrop, List.take_append_drop]
  have hbytes : f.toList = 0xFE :: ((f.toList.drop 1).take (j.val - 1) ++ 0xFE :: f.toList.drop (j.val + 1)) := by
    rw [← htail, ← hhdr]
    exact toList_drop_eq_cons f 0
  have hpost : ∀ b ∈ f.toList.drop (j.val + 1), b ≠ 0xFE := fun b hb => by
    obtain ⟨m, hm, rfl⟩ := exists_index_of_mem_drop hb
    exact hother m hm
  have hmid : ((f.toList.drop 1).take (j.val - 1)).length = j.val - 1 := by simp
  have hrest : (f.toList.drop (j.val + 1)).length = 10 - j.val := by simp
  have hlen : (f.toList.drop j.val).length = 11 - j.val := by simp
  obtain ⟨v, w, hpolls⟩ := execTimes_poll_inner_header hlive hd (rest := rest) hf (by rw [hmid, hrest]; omega) hpost
    ((hq.trans (congrArg (· ++ rest) hbytes)).trans (by simp))
  rw [← hinner, ← toList_drop_eq_cons] at hpolls
  refine ⟨_, hpolls, ?outcomes, ?fill, ?buffer, rfl⟩
  case outcomes =>
    simp only [accumulated, hmid, hlen, List.append_assoc, List.replicate_append_replicate]
    congr 3
    omega
  case fill => rw [accumulated_fill _ _ (by omega), hlen]
  case buffer =>
    rw [← hlen]
    exact take_toList_storeFrom v (by omega)

end Sys2Proof.Machine
end

section
/-! PROOFS. The query transaction with no failure (rules R97 to R104): the part after the wait by the number of bytes
that arrived. -/

namespace Sys2Proof.Machine

/-- With no byte after the wait there is no response (rule R99). -/
theorem readResponse_of_empty {s : State} (ha : s.draws.rxAvailFails = false) (hq : s.rxq = []) :
    readResponse s = s.ret .noResponse := by
  simp [readResponse, rxAvail, ha, hq]

/-- The state in which a capture of up to eleven bytes is judged: they are read from `RXQ` into `QCAP` (rule R98). -/
def captured (s : State) : State := (s.setRxq (s.rxq.drop 11)).setQcap (storeFrom s.qcap 0 (s.rxq.take 11))

/-- With a byte after the wait and no failure, up to eleven bytes are captured and judged (rules R98, R100, R102). -/
theorem readResponse_of_capture {s : State} (ha : s.draws.rxAvailFails = false) (hr : s.draws.rxReadFails = none)
    (hq : s.rxq ≠ []) :
    readResponse s = (captured s).ret (captureOutcome (min s.rxq.length 11) (captured s)) := by
  have htake : s.rxq.take (min s.rxq.length 11) = s.rxq.take 11 := by simp [List.take_eq_take_iff, Nat.min_comm]
  have hdrop : s.rxq.drop (min s.rxq.length 11) = s.rxq.drop 11 := by simp [List.drop_eq_drop_iff, Nat.min_comm]
  simp [readResponse, rxAvail, captureBytes, rxRead, captured, Config.frameLen, ha, hr, hq, htake, hdrop]

/-- Nine captured bytes or fewer are no response (rule R100). -/
theorem captureOutcome_of_lt {n : Nat} {s : State} (h : n < 10) : captureOutcome n s = .noResponse :=
  if_pos h

/-- Ten captured bytes or more are judged as a response (rule R102). -/
theorem captureOutcome_of_le {n : Nat} {s : State} (h : 10 ≤ n) :
    captureOutcome n s = queryAnswer s.params.qwinLo (capturedResponse s.qcap) s.alarm :=
  if_neg h.not_gt

/-- The answer for a response on its bytes (rules R67, R70). -/
theorem queryAnswer_of_bytes (w : QWinLo) (b0 b1 b2 b3 b4 b5 b6 b7 b8 b9 : Byte) (a : Bool) :
    queryAnswer w #v[b0, b1, b2, b3, b4, b5, b6, b7, b8, b9] a =
      if b0 = 0xFE ∧ (match w with
          | .one => b1.toNat + b2.toNat + b3.toNat + b4.toNat + b5.toNat + b6.toNat + b7.toNat
          | .two => b2.toNat + b3.toNat + b4.toNat + b5.toNat + b6.toNat + b7.toNat + b8.toNat) % 256 = b9.toNat
      then .readingQuery { tvocRaw := be16 b5 b6, raw2 := be16 b7 b8, alarm := a }
      else .checksumError := by
  simp only [queryAnswer_eq_ite, validateQuery_eq_valid, csumOkQuery_iff]
  rfl

/-- Settles O41: `QUERY` reads what the wait left, by the number of its bytes. -/
theorem queryOutcomes : Obligations.QueryOutcomes := by
  unfold Obligations.QueryOutcomes
  intro s w hlive hfill hd hwait
  obtain ⟨ha, -, hr, hf, hw, -⟩ := hd
  have hexec : exec .query s = .next (readResponse w) := by
    rw [exec_of_ready .query ⟨hlive, hfill⟩, bodyOf, queryBody_of_write_ok hf hw, hwait]
    rfl
  obtain ⟨hdraws, hout⟩ : w.draws = s.draws ∧ w.outcomes = s.outcomes := hwait ▸ actAll_keeps_draws_outcomes _ _
  have hparams : w.params = s.params := by
    obtain ⟨q, v, m, hact, -⟩ := actAll_spec s.draws.duringWait
      { s with rxq := [], tx := s.tx ++ [0xFE, 0x00, 0x86, 0x00, 0x00, 0x00, 0x00, 0x00, 0x86] }
    rw [hwait, hact]
  rw [hexec, ← hout, ← hparams]
  refine ⟨fun hq => ?none, fun h1 h9 => ?few, fun b0 b1 b2 b3 b4 b5 b6 b7 b8 b9 more hq => ?enough⟩
  case none =>
    rw [readResponse_of_empty (hdraws ▸ ha) hq]
    rfl
  case few =>
    have hne : w.rxq ≠ [] := List.ne_nil_of_length_pos h1
    rw [readResponse_of_capture (hdraws ▸ ha) (hdraws ▸ hr) hne, captureOutcome_of_lt (by omega), captured,
      List.drop_of_length_le (by omega), List.take_of_length_le (by omega)]
    rfl
  case enough =>
    have hne : w.rxq ≠ [] := by simp [hq]
    have hlen : 10 ≤ min w.rxq.length 11 := by simp [hq]
    have htake : w.rxq.take 11 = [b0, b1, b2, b3, b4, b5, b6, b7, b8, b9] ++ more.take 1 := by rw [hq]; rfl
    have hdrop : w.rxq.drop 11 = more.drop 1 := by rw [hq]; rfl
    have hcap : capturedResponse (captured w).qcap = #v[b0, b1, b2, b3, b4, b5, b6, b7, b8, b9] := by
      rw [captured, State.setQcap_qcap, htake]
      exact capturedResponse_storeFrom _ _ _ _ _ _ _ _ _ _ _ _ (List.length_take_le _ _)
    rw [readResponse_of_capture (hdraws ▸ ha) (hdraws ▸ hr) hne, captureOutcome_of_le hlen, hcap,
      queryAnswer_of_bytes, captured, hdrop]
    rfl

/-- A response of ten bytes, with an eleventh or without, that arrives whole during the wait is judged by its first
ten bytes, and leaves `RXQ` empty (rules R101, R102). -/
theorem exec_query_of_arrival {s : State} (hlive : s.live = true) (hfill : s.fill.toNat ≤ 10)
    (hdepth : 11 ≤ s.params.rxDepth) (b0 b1 b2 b3 b4 b5 b6 b7 b8 b9 : Byte) {more : List Byte} (hmore : more.length ≤ 1) :
    ∃ t, exec .query { s with draws := { Draws.quiet with
          duringWait := [.rxAppend ([b0, b1, b2, b3, b4, b5, b6, b7, b8, b9] ++ more)] } } = .next t ∧
      t.outcomes = s.outcomes ++ [queryAnswer s.params.qwinLo #v[b0, b1, b2, b3, b4, b5, b6, b7, b8, b9] s.alarm] ∧
      t.rxq = [] ∧ t.tx = s.tx ++ cmdQreqBytes := by
  obtain ⟨-, -, henough⟩ := queryOutcomes { s with draws := { Draws.quiet with
    duringWait := [.rxAppend ([b0, b1, b2, b3, b4, b5, b6, b7, b8, b9] ++ more)] } } _ hlive hfill
    ⟨rfl, rfl, rfl, rfl, rfl, rfl⟩ rfl
  have hwhole : ([b0, b1, b2, b3, b4, b5, b6, b7, b8, b9] ++ more).length ≤ s.params.rxDepth := by
    rw [List.length_append]
    exact (Nat.add_le_add_left hmore 10).trans hdepth
  refine ⟨_, henough b0 b1 b2 b3 b4 b5 b6 b7 b8 b9 more (List.take_of_length_le hwhole), ?_,
    List.drop_eq_nil_of_le hmore, rfl⟩
  rw [queryAnswer_of_bytes]
  rfl

/-- Settles O46: `exec_query_of_arrival`, without an eleventh byte and with it. -/
theorem tenByteResponseIsEnough : Obligations.TenByteResponseIsEnough := by
  unfold Obligations.TenByteResponseIsEnough
  intro s q x hlive hfill hdepth hlen
  match q, hlen with
  | [b0, b1, b2, b3, b4, b5, b6, b7, b8, b9], _ =>
    obtain ⟨t, hten, hout, hrxq, htx⟩ :=
      exec_query_of_arrival hlive hfill hdepth b0 b1 b2 b3 b4 b5 b6 b7 b8 b9 (more := []) (Nat.zero_le 1)
    obtain ⟨t', heleven, hout', hrxq', htx'⟩ :=
      exec_query_of_arrival hlive hfill hdepth b0 b1 b2 b3 b4 b5 b6 b7 b8 b9 (more := [x]) le_rfl
    exact ⟨t, t', hten, heleven, hout.trans hout'.symm, hrxq, hrxq', htx.trans htx'.symm⟩

end Sys2Proof.Machine
end

section
/-! PROOFS. Noninterference (rules R20, R25, R104, R108). `s.withStale b v c` is `s` with other contents of `RXBUF`,
`FILL` and `QCAP`; `QUERY` and the environment do the same to it as to `s`, and every instruction does where only stale
contents differ. -/

namespace Sys2Proof.Machine

/-- `s` with other contents of `RXBUF`, `FILL` and `QCAP`. -/
def State.withStale (s : State) (b : Frame) (v : BitVec 4) (c : Frame) : State :=
  { s with rxbuf := b, fill := v, qcap := c }

/-! ## QUERY -/

/-- The environment does not depend on the registers (rule R37). -/
theorem act_withStale (a : EnvAction) (s : State) (b : Frame) (v : BitVec 4) (c : Frame) :
    a.act (s.withStale b v c) = (a.act s).withStale b v c := by
  cases a <;> rfl

/-- Nor does any number of its actions (rule R106). -/
theorem actAll_withStale (l : List EnvAction) (s : State) (b : Frame) (v : BitVec 4) (c : Frame) :
    actAll l (s.withStale b v c) = (actAll l s).withStale b v c := by
  induction l generalizing s with
  | nil => rfl
  | cons a l ih => rw [actAll, act_withStale, ih, actAll]

/-- The validator reads bytes 0..9 of a capture (rule R67). -/
theorem toList_capturedResponse (v : Frame) : (capturedResponse v).toList = v.toList.take 10 := by
  obtain ⟨⟨l⟩, h⟩ := v
  simp only [List.size_toArray] at h
  match l, h with
  | [_, _, _, _, _, _, _, _, _, _, _], _ => rfl

/-- With ten captured bytes or more, the validator reads nothing that `QCAP` held before (rule R104). -/
theorem capturedResponse_storeFrom_congr (v w : Frame) {l : List Byte} (h10 : 10 ≤ l.length) (h11 : l.length ≤ 11) :
    capturedResponse (storeFrom v 0 l) = capturedResponse (storeFrom w 0 l) := by
  have hread (u : Frame) : (capturedResponse (storeFrom u 0 l)).toList = l.take 10 := by
    rw [toList_capturedResponse, ← Nat.min_eq_left h10, ← List.take_take, take_toList_storeFrom u h11,
      Nat.min_eq_left h10]
  rw [← Vector.toList_inj, hread, hread]

/-- The outcome of a capture does not depend on what the registers held before (rule R104). -/
theorem captureOutcome_withStale (s : State) (b : Frame) (v : BitVec 4) (c : Frame) :
    captureOutcome (min s.rxq.length 11) (captured (s.withStale b v c)) =
      captureOutcome (min s.rxq.length 11) (captured s) := by
  by_cases hn : min s.rxq.length 11 < 10
  · rw [captureOutcome_of_lt hn, captureOutcome_of_lt hn]
  · have hlen : (s.rxq.take 11).length = min s.rxq.length 11 := by rw [List.length_take, Nat.min_comm]
    have hcap := capturedResponse_storeFrom_congr c s.qcap (l := s.rxq.take 11) (by omega) (by omega)
    rw [captureOutcome_of_le (by omega), captureOutcome_of_le (by omega)]
    exact congrArg (queryAnswer s.params.qwinLo · s.alarm) hcap

/-- What follows the wait does the same with other registers, and writes the same to `QCAP` if it held the same
(rules R104, R108). -/
theorem readResponse_withStale (s : State) (b : Frame) (v : BitVec 4) (c : Frame) :
    ∃ c', readResponse (s.withStale b v c) = (readResponse s).withStale b v c' ∧
      (c = s.qcap → c' = (readResponse s).qcap) := by
  cases ha : s.draws.rxAvailFails with
  | true =>
    rw [readResponse_of_avail_failed ha, readResponse_of_avail_failed (s := s.withStale b v c) ha]
    exact ⟨c, rfl, id⟩
  | false =>
    by_cases hq : s.rxq = []
    · rw [readResponse_of_empty ha hq, readResponse_of_empty (s := s.withStale b v c) ha hq]
      exact ⟨c, rfl, id⟩
    · cases hr : s.draws.rxReadFails with
      | some k =>
        rw [readResponse_of_read_failed ha hq hr, readResponse_of_read_failed (s := s.withStale b v c) ha hq hr]
        exact ⟨freeBytes s.freeCount, rfl, fun _ => rfl⟩
      | none =>
        have hout := captureOutcome_withStale s b v c
        rw [readResponse_of_capture ha hr hq, readResponse_of_capture (s := s.withStale b v c) ha hr hq, ← hout]
        exact ⟨storeFrom c 0 (s.rxq.take 11), rfl, fun h => by rw [h]; rfl⟩

/-- `QUERY` does the same with other registers (rules R104, R108). -/
theorem queryBody_withStale (s : State) (b : Frame) (v : BitVec 4) (c : Frame) :
    ∃ c', queryBody (s.withStale b v c) = (queryBody s).withStale b v c' ∧ (c = s.qcap → c' = (queryBody s).qcap) := by
  cases hf : s.draws.rxFlushFails with
  | some k =>
    rw [queryBody_of_flush_failed hf, queryBody_of_flush_failed (s := s.withStale b v c) hf]
    exact ⟨c, rfl, id⟩
  | none =>
    cases hw : s.draws.txWriteFails with
    | some k =>
      rw [queryBody_of_write_failed hf hw, queryBody_of_write_failed (s := s.withStale b v c) hf hw]
      exact ⟨c, rfl, id⟩
    | none =>
      have hsent : ((s.withStale b v c).setRxq []).send cmdQreqBytes = ((s.setRxq []).send cmdQreqBytes).withStale b v c :=
        rfl
      obtain ⟨q, a, m, hact, -⟩ := actAll_spec s.draws.duringWait ((s.setRxq []).send cmdQreqBytes)
      obtain ⟨c', hread, hqcap⟩ :=
        readResponse_withStale (actAll s.draws.duringWait ((s.setRxq []).send cmdQreqBytes)) b v c
      rw [queryBody_of_write_ok hf hw, queryBody_of_write_ok (s := s.withStale b v c) hf hw, hsent, actAll_withStale]
      exact ⟨c', hread, fun h => hqcap (by rw [hact]; exact h)⟩

/-- Settles O44: `queryBody_withStale` with `QCAP` unchanged. -/
theorem queryLeavesTheSynchronizer : Obligations.QueryLeavesTheSynchronizer := by
  unfold Obligations.QueryLeavesTheSynchronizer
  intro s t h
  obtain ⟨-, -, -, -, hrxbuf, hfill, -⟩ := accessTableFrames .query s t h
  refine ⟨hfill (by decide) (by decide) (by decide) (by decide), hrxbuf (by decide), fun b v hv => ?_⟩
  obtain ⟨⟨hlive, -⟩, rfl⟩ := exec_eq_next.mp h
  obtain ⟨c', hbody, hqcap⟩ := queryBody_withStale s b v s.qcap
  rw [hqcap rfl] at hbody
  exact exec_eq_next.mpr ⟨⟨hlive, hv⟩, hbody⟩

/-- Settles O45: `queryBody_withStale`, read for what is observed. -/
theorem queryDependsOnNoEarlierState : Obligations.QueryDependsOnNoEarlierState := by
  unfold Obligations.QueryDependsOnNoEarlierState
  intro s b c v hlive hfill hv
  obtain ⟨c', hbody, -⟩ := queryBody_withStale s b v c
  exact ⟨_, _, exec_of_ready .query ⟨hlive, hfill⟩, exec_eq_next.mpr ⟨⟨hlive, hv⟩, hbody⟩, rfl, rfl, rfl⟩

/-! ## Stale contents -/

/-- Two buffers hold the same bytes at the indices below `n`. -/
def AgreeBelow (n : Nat) (b b' : Frame) : Prop := ∀ i : Fin 11, i.val < n → b'[i] = b[i]

/-- Nothing is compared below index 0. -/
theorem agreeBelow_zero (b b' : Frame) : AgreeBelow 0 b b' := fun _ hi => absurd hi (Nat.not_lt_zero _)

/-- The same byte stored at the end of what agrees agrees too. -/
theorem AgreeBelow.store {n : Nat} {b b' : Frame} (h : AgreeBelow n b b') (x : Byte) :
    AgreeBelow (n + 1) (b.setIfInBounds n x) (b'.setIfInBounds n x) := by
  intro i hi
  simp only [Fin.getElem_fin, Vector.getElem_setIfInBounds]
  split
  · rfl
  · exact h i (by omega)

/-- Buffers that agree at every index are equal. -/
theorem AgreeBelow.eq {b b' : Frame} (h : AgreeBelow 11 b b') : b' = b :=
  Vector.ext fun i hi => h ⟨i, hi⟩ hi

/-- States that differ only in stale contents, by their buffers. -/
theorem sameButStale_iff {s s' : State} :
    s.sameButStale s' ↔ ∃ b c, s' = s.withStale b s.fill c ∧ AgreeBelow s.fill.toNat s.rxbuf b := by
  constructor
  · rintro ⟨heq, hagree⟩
    exact ⟨_, _, heq, hagree⟩
  · rintro ⟨b, c, rfl, hagree⟩
    exact ⟨rfl, hagree⟩

/-- A state that differs from `t` in `QCAP`, and in `RXBUF` beyond `FILL`. -/
theorem sameButStale_of_eq {t t' : State} {b : Frame} {v : BitVec 4} {c : Frame} (heq : t' = t.withStale b v c)
    (hv : t.fill = v) (hagree : AgreeBelow v.toNat t.rxbuf b) : t.sameButStale t' := by
  subst hv
  exact sameButStale_iff.mpr ⟨b, c, heq, hagree⟩

/-- The same where `t` has the accumulation of a state whose buffer agrees with the other one. -/
theorem sameButStale_of_frame {s t t' : State} {b c : Frame} (hagree : AgreeBelow s.fill.toNat s.rxbuf b)
    (hframe : t.fill = s.fill ∧ t.rxbuf = s.rxbuf) (heq : t' = t.withStale b s.fill c) : t.sameButStale t' := by
  obtain ⟨hfill, hrxbuf⟩ := hframe
  exact sameButStale_of_eq heq hfill (hrxbuf ▸ hagree)

/-- A state that differs from `t`, whose `FILL` is 0, in the registers' contents only. -/
theorem sameButStale_of_fill_zero {t t' : State} {b c : Frame} (heq : t' = t.withStale b 0 c) (hf : t.fill = 0) :
    t.sameButStale t' :=
  sameButStale_of_eq heq hf (agreeBelow_zero _ _)

section

variable (s : State) (b : Frame) (v : BitVec 4) (c : Frame)

/-- A mode command does not depend on the registers, and clears `FILL` (rules R92, R93). -/
theorem modeCommand_withStale (k : List Byte) :
    modeCommand k (s.withStale b v c) = (modeCommand k s).withStale b 0 c ∧ (modeCommand k s).fill = 0 := by
  cases hw : s.draws.txWriteFails with
  | none =>
    rw [modeCommand_of_write_ok k hw, modeCommand_of_write_ok k (s := s.withStale b v c) hw]
    exact ⟨rfl, rfl⟩
  | some n =>
    rw [modeCommand_of_write_failed k hw, modeCommand_of_write_failed k (s := s.withStale b v c) hw]
    exact ⟨rfl, rfl⟩

/-- A command frame on its own does not depend on the registers (rule R90). -/
theorem serializeAlone_withStale (k : List Byte) :
    serializeAlone k (s.withStale b v c) = (serializeAlone k s).withStale b v c := by
  cases hw : s.draws.txWriteFails with
  | none =>
    rw [serializeAlone_of_write_ok k hw, serializeAlone_of_write_ok k (s := s.withStale b v c) hw]
    rfl
  | some n =>
    rw [serializeAlone_of_write_failed k hw, serializeAlone_of_write_failed k (s := s.withStale b v c) hw]
    rfl

/-- A completion of the same frame does not depend on `QCAP` (rules R81 to R84). -/
theorem completeFrame_withStale :
    completeFrame (s.withStale s.rxbuf v c) = (completeFrame s).withStale s.rxbuf 0 c ∧ (completeFrame s).fill = 0 := by
  cases hv : validateActive s.rxbuf with
  | checksumError =>
    rw [completeFrame_of_checksumError hv, completeFrame_of_checksumError (s := s.withStale s.rxbuf v c) hv]
    exact ⟨rfl, rfl⟩
  | valid =>
    cases hk : s.draws.rxFlushFails with
    | none =>
      rw [completeFrame_of_valid hv hk, completeFrame_of_valid (s := s.withStale s.rxbuf v c) hv hk]
      exact ⟨rfl, rfl⟩
    | some k =>
      rw [completeFrame_of_flush_failed hv hk, completeFrame_of_flush_failed (s := s.withStale s.rxbuf v c) hv hk]
      exact ⟨rfl, rfl⟩

end

section

variable {s : State} {b : Frame} (c : Frame) (hfill : s.fillLegal) (hagree : AgreeBelow s.fill.toNat s.rxbuf b)

include hfill hagree

/-- A byte that `POLL` takes is stored where the buffers agree up to, so they agree up to there; a completed frame is
the same in both (rule R25). -/
theorem takeByte_sameButStale (x : Byte) : (takeByte x s).sameButStale (takeByte x (s.withStale b s.fill c)) := by
  by_cases hx : x = 0xFE
  · subst hx
    rw [takeByte_header, takeByte_header]
    exact sameButStale_of_eq rfl rfl ((agreeBelow_zero s.rxbuf b).store 0xFE)
  · obtain hlt | hten : s.fill.toNat < 10 ∨ s.fill.toNat = 10 := Nat.lt_or_eq_of_le hfill
    · rw [takeByte_of_fill_lt hx hlt, takeByte_of_fill_lt (s := s.withStale b s.fill c) hx hlt]
      refine sameButStale_of_eq rfl rfl ?_
      change AgreeBelow (s.fill + 1).toNat _ _
      rw [toNat_fill_succ hfill]
      exact hagree.store x
    · have hf : s.fill = 10 := BitVec.eq_of_toNat_eq hten
      have hframe : b.setIfInBounds 10 x = s.rxbuf.setIfInBounds 10 x := by
        rw [hten] at hagree
        exact (hagree.store x).eq
      obtain ⟨heq, hzero⟩ := completeFrame_withStale ((s.storeRx 10 x).setFill 11) 11 c
      rw [takeByte_of_fill_ten hx hf, takeByte_of_fill_ten (s := s.withStale b s.fill c) hx hf]
      have hstored : ((s.withStale b s.fill c).storeRx 10 x).setFill 11 =
          ((s.storeRx 10 x).setFill 11).withStale (s.rxbuf.setIfInBounds 10 x) 11 c := by
        rw [← hframe]
        rfl
      rw [hstored]
      exact sameButStale_of_fill_zero heq hzero

/-- `POLL` does not depend on stale contents (rules R20, R25). -/
theorem pollBody_sameButStale : (pollBody s).sameButStale (pollBody (s.withStale b s.fill c)) := by
  cases ha : s.draws.rxAvailFails with
  | true =>
    rw [pollBody_of_avail_failed ha, pollBody_of_avail_failed (s := s.withStale b s.fill c) ha]
    exact sameButStale_of_eq rfl rfl hagree
  | false =>
    cases hq : s.rxq with
    | nil =>
      rw [pollBody_of_empty ha hq, pollBody_of_empty (s := s.withStale b s.fill c) ha hq]
      exact sameButStale_of_eq rfl rfl hagree
    | cons x q =>
      cases hp : s.draws.rxPopFails with
      | some k =>
        have hne : s.rxq ≠ [] := by simp [hq]
        rw [pollBody_of_pop_failed ha hp hne, pollBody_of_pop_failed (s := s.withStale b s.fill c) ha hp hne]
        exact sameButStale_of_eq rfl rfl hagree
      | none =>
        rw [pollBody_of_byte ha hp hq, pollBody_of_byte (s := s.withStale b s.fill c) ha hp hq]
        exact takeByte_sameButStale (s := s.setRxq q) c hfill hagree x

/-- No instruction depends on stale contents (rules R20, R25). -/
theorem bodyOf_sameButStale (i : Instr) : (bodyOf i s).sameButStale (bodyOf i (s.withStale b s.fill c)) := by
  have hmode (k : List Byte) : (modeCommand k s).sameButStale (modeCommand k (s.withStale b s.fill c)) := by
    obtain ⟨heq, hzero⟩ := modeCommand_withStale s b s.fill c k
    exact sameButStale_of_fill_zero heq hzero
  have hcommand (k : List Byte) : (serializeAlone k s).sameButStale (serializeAlone k (s.withStale b s.fill c)) := by
    obtain ⟨n, r, hs⟩ := serializeAlone_cases k s
    exact sameButStale_of_frame hagree (hs ▸ ⟨rfl, rfl⟩) (serializeAlone_withStale s b s.fill c k)
  cases i with
  | setact | setqry | stopact => exact hmode _
  | poll => exact pollBody_sameButStale c hfill hagree
  | query =>
    obtain ⟨c', heq, -⟩ := queryBody_withStale s b s.fill c
    obtain ⟨q, cap, f, w, a, m, r, hs, -⟩ := queryBody_cases s
    exact sameButStale_of_frame hagree (t := queryBody s) (hs ▸ ⟨rfl, rfl⟩) heq
  | reserved000 | reserved101 | reserved110 | reserved111 => exact sameButStale_of_eq rfl rfl hagree
  | cmdActive | cmdQmode | cmdQreq => exact hcommand _
  | activeFrame | queryResponse => exact sameButStale_of_eq rfl rfl hagree

end

/-- No instruction stops or answers differently for stale contents (rules R20, R25). -/
theorem exec_sameButStale (i : Instr) {s s' : State} (h : s.sameButStale s') :
    sameOutcome State.sameButStale (exec i s) (exec i s') := by
  obtain ⟨b, c, rfl, hagree⟩ := sameButStale_iff.mp h
  rw [exec_eq_accept, exec_eq_accept]
  cases hlive : s.live with
  | false =>
    rw [accept_of_not_live hlive, accept_of_not_live (s := s.withStale b s.fill c) hlive]
    rfl
  | true =>
    by_cases hfill : s.fill.toNat ≤ 10
    · rw [accept_of_ready ⟨hlive, hfill⟩, accept_of_ready (s := s.withStale b s.fill c) ⟨hlive, hfill⟩]
      exact bodyOf_sameButStale c hfill hagree i
    · rw [accept_of_fill hlive (by omega), accept_of_fill (s := s.withStale b s.fill c) hlive (Nat.lt_of_not_le hfill)]
      rfl

/-- Settles O51: by the input of the step; a construction overwrites all that differs. -/
theorem staleContentIsUnobservable : Obligations.StaleContentIsUnobservable := by
  unfold Obligations.StaleContentIsUnobservable
  intro s s' h
  obtain ⟨b, c, rfl, hagree⟩ := sameButStale_iff.mp h
  cases hs : s.inputs with
  | nil =>
    rw [step_of_idle hs, step_of_idle (s := s.withStale b s.fill c) hs]
    exact h
  | cons e rest =>
    cases e with
    | env a =>
      rw [step_of_env hs, step_of_env (s := s.withStale b s.fill c) hs]
      obtain ⟨q, v, m, hact, -⟩ := act_spec a (s.setInputs rest)
      exact sameButStale_of_frame hagree (hact ▸ ⟨rfl, rfl⟩) (act_withStale a (s.setInputs rest) b s.fill c)
    | construct path baud d =>
      rw [step_of_construct hs, step_of_construct (s := s.withStale b s.fill c) hs]
      have hsame : construct path baud ((s.withStale b s.fill c).begin rest d) = construct path baud (s.begin rest d) :=
        rfl
      rw [hsame]
      exact ⟨rfl, fun _ _ => rfl⟩
    | request p w d =>
      cases hw : decodeOn p w with
      | error e =>
        rw [step_of_undecodable hs hw, step_of_undecodable (s := s.withStale b s.fill c) hs hw]
        rfl
      | ok i =>
        rw [step_of_request hs hw, step_of_request (s := s.withStale b s.fill c) hs hw]
        exact exec_sameButStale i (sameButStale_of_eq (t := s.begin rest d) rfl rfl hagree)

end Sys2Proof.Machine
end
